-- ==== Sys2Proof/Word.lean ====
section
/-! DEFINITION. The word types and numberings of the L96: bytes, 32-bit words, line, link and receiver
numbers, and sets of lines (spec/00_scope.md, Numbering and Memory conventions). -/

namespace Sys2Proof

/-- One byte of the exchange area, of a sense frame or of a register. -/
abbrev Byte := BitVec 8

/-- A 32-bit word: a register of the window, or a cabinet time (R1). -/
abbrev Word := BitVec 32

/-- A line number 0..95. -/
abbrev LineNo := Fin 96

/-- A sense link number 0..11; link `g` serves the group of lines `8g .. 8g+7`. -/
abbrev LinkNo := Fin 12

/-- A tone receiver number 0..7. -/
abbrev RxNo := Fin 8

/-- A dialled symbol: 0..9 the digits, 10 `*`, 11 `#`, 12..15 `A`..`D` (spec/00_scope.md, Digit symbols). -/
abbrev Symbol := Fin 16

/-- A set of lines, bit `L` for line `L`, as the GAP record lays it out (R160, Record Layouts). -/
abbrev LineSet := BitVec 96

/-- The line at position `p` of group `g` (spec/00_scope.md, Numbering: position p of group g is line 8g+p). -/
def lineAt (g : LinkNo) (p : Fin 8) : LineNo := ⟨8 * g.val + p.val, by omega⟩

/-- The sense link that serves a line. -/
def linkOf (L : LineNo) : LinkNo := ⟨L.val / 8, by omega⟩

end Sys2Proof
end

