-- ==== Sys2Proof/Config.lean ====
section
/-! DEFINITION. What the part fixes: the capacities, fixed limits and tables that the spec gives as constants.
No value of this model is free: the spec leaves no result of a command open (NOTES.md, Scope). -/

namespace Sys2Proof.Config

/-- A sample-counted timer saturates here (R11). -/
abbrev timerMax : Nat := 65535

/-- The staging queue holds at most this many records (R158). -/
abbrev stagingCapacity : Nat := 32

/-- The dropped count saturates here (R159). -/
abbrev droppedMax : Nat := 65535

/-- A digit string holds at most this many symbols (R90). -/
abbrev stringMax : Nat := 24

/-- Missing strobe periods that lose an UP link (R6). -/
abbrev linkMissingLimit : Nat := 3

/-- Valid frames in sequence that restore a DOWN link (R8). -/
abbrev linkRunLimit : Nat := 4

/-- Missing highway periods that lose the highway (R63). -/
abbrev highwayMissingLimit : Nat := 2

/-- Complete frames in sequence that restore the highway (R64). -/
abbrev highwayRunLimit : Nat := 8

/-- Samples of a tone block (R75). -/
abbrev blockLength : Nat := 160

/-- A conductor beyond this many voltage steps is high for POWER_CROSS (R107). -/
abbrev powerCrossLimit : Nat := 300

/-- Samples of unbroken quiet that clear POWER_CROSS (R107). -/
abbrev powerCrossClear : Nat := 2000

/-- High samples in a row that raise POWER_CROSS (R107). -/
abbrev powerCrossRun : Nat := 3

/-- The range of the baseline B (R37). -/
abbrev baselineMax : Nat := 16368

/-- The range of the AC average A16 (R111). -/
abbrev acAverageMax : Nat := 32736

/-- The ceiling of T_on (R38). -/
abbrev tOnMax : Nat := 1000

/-- The SPEED flag is set for a first period below the first or above the second bound (R50). -/
abbrev speedLow : Nat := 70

/-- See `speedLow`. -/
abbrev speedHigh : Nat := 150

/-- The eight filter coefficients, the four rows and then the four columns, ascending in frequency (R76). -/
abbrev coefficients : List Int := [27980, 26956, 25701, 24219, 19073, 16325, 13085, 9315]

/-- The keypad: the symbol at row `r` and column `c`, both ascending in frequency (R78). -/
abbrev keypad : List (List Symbol) :=
  [[1, 2, 3, 12], [4, 5, 6, 13], [7, 8, 9, 14], [10, 0, 11, 15]]

/-- Real milliseconds of the settle time of a LINE_TEST (R143). -/
abbrev settleMs : Nat := 20

/-- Real milliseconds between a 50 V stimulus and its collision reading (R149). -/
abbrev stimulusMs : Nat := 20

/-- Real milliseconds of the capacitance pulse (R151). -/
abbrev pulseMs : Nat := 10

/-- Real milliseconds of a discharge (R148). -/
abbrev dischargeMs : Nat := 50

/-- Conversions of a reading (R140). -/
abbrev readingLength : Nat := 20

/-- Readings of a verified reading, at most (R141). -/
abbrev seriesLength : Nat := 8

/-- A loop watch magnitude of this many counts or more is a seizure (R145). -/
abbrev loopWatchLimit : Nat := 50

/-- A DC voltage beyond this many counts is a foreign voltage (R147). -/
abbrev foreignLimit : Nat := 100

/-- The largest resistance the part reports (R150). -/
abbrev resistanceMax : Nat := 99999999

/-- The largest capacitance the part reports (R151). -/
abbrev capacitanceMax : Nat := 65535

/-- The value IDENT reads (R175). -/
abbrev ident : Word := 0x0C960002#32

/-- The most bytes one access moves (R172). -/
abbrev accessMax : Nat := 64

/-- Offsets and sizes of the fixed regions of the exchange area (spec/10, The area map). -/
abbrev settingsOffset : Nat := 0x0000
abbrev settingsSize : Nat := 256
abbrev statusBlockOffset : Nat := 0x0100
abbrev statusBlockSize : Nat := 64
abbrev planLengthOffset : Nat := 0x0200
abbrev planLengthSize : Nat := 100
abbrev earlyOffset : Nat := 0x0280
abbrev earlySize : Nat := 192
abbrev profileOffset : Nat := 0x0400
abbrev profileSize : Nat := 48
abbrev statusTableOffset : Nat := 0x1800
abbrev statusEntrySize : Nat := 16
abbrev recordSize : Nat := 32

end Sys2Proof.Config
end

