-- ==== Sys2Proof/Syntax.lean ====
section
/-! DEFINITION. The commands of the L96: one constructor for each row of spec/opcode_table.json, in the table's
order, with the operands its rule gives it. NOTES.md, "How a command is read", says what a row that names an
event inside a stimulus means (log entry 1). -/

namespace Sys2Proof

/-- One line's sample (R10): the triple of a sense frame and the elapsed value of its frame (R5, R8). -/
structure Sample where
  i : Int
  vt : Int
  vr : Int
  elapsed : Fin 16
  deriving DecidableEq, Repr

/-- The five fault conditions of a line, in the order of spec/11_record_layouts.md. -/
inductive Condition where
  | powerCross | foreignDc | acInduced | leakage | loopShort
  deriving DecidableEq, Repr

/-- The commands. Every constructor is one row of the table; its docstring names the rule. -/
inductive Instr where
  /-- STROBE_INSTANT (R2): cabinet time advances by one millisecond. -/
  | strobeInstant
  /-- LINK_LOST (R6): the strobe instant at which link `g` is lost. -/
  | linkLost (g : LinkNo)
  /-- SENSE_FRAME (R3): the bytes of one frame arrive on link `g`. -/
  | senseFrame (g : LinkNo) (bytes : List Byte)
  /-- LINK_RESTORED (R8): the frame on link `g` that completes the link's run. -/
  | linkRestored (g : LinkNo) (bytes : List Byte)
  /-- SEIZE_CONFIRM (R21): the sample of a line that confirms its seizure. -/
  | seizeConfirm (line : LineNo) (smp : Sample)
  /-- RELEASE (R24): the sample of a line in OPEN_INTERVAL at which the break passes flash_max. -/
  | release (line : LineNo) (smp : Sample)
  /-- PARKED_RELEASE (R28): the sample of a line in PARKED_OPEN at which the break passes flash_max. -/
  | parkedRelease (line : LineNo) (smp : Sample)
  /-- DIGIT_END (R49): the sample of a line at which its pulse train ends by the digit-end threshold. -/
  | digitEnd (line : LineNo) (smp : Sample)
  /-- FIRST_DIGIT_TIMEOUT (R99): the sample of a line at which its first-digit timer expires. -/
  | firstDigitTimeout (line : LineNo) (smp : Sample)
  /-- INTERDIGIT_TIMEOUT (R98): the sample of a line at which its interdigit timer expires. -/
  | interdigitTimeout (line : LineNo) (smp : Sample)
  /-- HIGHWAY_INSTANT (R61): the boundary between two highway periods of 125 µs. -/
  | highwayInstant
  /-- HIGHWAY_LOST (R63): the highway instant at which the highway is lost. -/
  | highwayLost
  /-- HIGHWAY_FRAME (R61): a frame start and the slots that follow it; complete with 128 slots. -/
  | highwayFrame (slots : List (BitVec 16))
  /-- HIGHWAY_RESTORED (R64): the complete frame that brings the good run to 8. -/
  | highwayRestored (slots : List (BitVec 16))
  /-- BLOCK_END (R75): the complete frame at which receiver `r` ends a block. -/
  | blockEnd (r : RxNo) (slots : List (BitVec 16))
  /-- TONE_WINDOW_EXPIRY (R73): the sample of a line at which its receiver's tone window expires. -/
  | toneWindowExpiry (line : LineNo) (smp : Sample)
  /-- QUEUE_WAIT_NOTICE (R72): the sample of a queued line at which RX_DELAY is due. -/
  | queueWaitNotice (line : LineNo) (smp : Sample)
  /-- CONDITION_CONFIRM (R106): the sample of a line that raises condition `c`. -/
  | conditionConfirm (line : LineNo) (c : Condition) (smp : Sample)
  /-- CONDITION_CLEAR (R106): the sample of a line that clears condition `c`. -/
  | conditionClear (line : LineNo) (c : Condition) (smp : Sample)
  /-- POWER_CROSS_RAISE (R108): the sample of a line that raises POWER_CROSS. -/
  | powerCrossRaise (line : LineNo) (smp : Sample)
  /-- POWER_CROSS_CLEAR (R109): the sample of a line that clears POWER_CROSS. -/
  | powerCrossClear (line : LineNo) (smp : Sample)
  /-- BATCH_DELAY_EXPIRY (R162): the millisecond at which the batch delay timer expires. -/
  | batchDelayExpiry
  /-- BATCH_ABSOLUTE_EXPIRY (R162): the millisecond at which the batch absolute timer expires. -/
  | batchAbsoluteExpiry
  /-- ORDER_POLL (R126): the millisecond at which the poll timer reaches order_poll. -/
  | orderPoll
  /-- MEMORY_ACCESS_DONE (R172): the good response to the access in flight, with the bytes a read returns. -/
  | memoryAccessDone (data : List Byte)
  /-- MEMORY_ACCESS_ERROR (R181): the error response to the access in flight. -/
  | memoryAccessError
  /-- MEMORY_ACCESS_TIMEOUT (R172): the access in flight is 100 µs old and not completed. -/
  | memoryAccessTimeout
  /-- BLOCK (R29): the good response to the TAKEN write that puts a BLOCK order of `line` in execution. -/
  | block (line : LineNo)
  /-- UNBLOCK (R30): as `block`, for an UNBLOCK order. -/
  | unblock (line : LineNo)
  /-- ATTACH_RECEIVER (R132): as `block`, for an ATTACH_RECEIVER order. -/
  | attachReceiver (line : LineNo)
  /-- DETACH_RECEIVER (R132): as `block`, for a DETACH_RECEIVER order. -/
  | detachReceiver (line : LineNo)
  /-- RESUME_COLLECTION (R85): as `block`, for a RESUME_COLLECTION order. -/
  | resumeCollection (line : LineNo)
  /-- RELOAD_PROFILES (R133): a good response that puts the order in execution or returns one of its profiles. -/
  | reloadProfiles (data : List Byte)
  /-- RELOAD_PLAN (R137): a good response that puts the order in execution or returns a part of the plan. -/
  | reloadPlan (data : List Byte)
  /-- RELOAD_SETTINGS (R138): a good response that puts the order in execution or returns a part of the settings. -/
  | reloadSettings (data : List Byte)
  /-- LINE_TEST (R142): as `block`, for a LINE_TEST order. -/
  | lineTest (line : LineNo)
  /-- SELF_CHECK (R154): the good response to the TAKEN write that puts a SELF_CHECK order in execution. -/
  | selfCheck
  /-- TEST_SETTLE_END (R143): the millisecond at which the settle time expires. -/
  | testSettleEnd
  /-- READING_DONE (R140): the 20 conversions of the reading in progress. -/
  | readingDone (conversions : List Int)
  /-- LOOP_WATCH_READ (R145): the one conversion of the loop watch read in progress. -/
  | loopWatchRead (value : Int)
  /-- STIMULUS_WAIT_END (R149): the millisecond at which the wait after a 50 V stimulus expires. -/
  | stimulusWaitEnd
  /-- PULSE_END (R151): the millisecond at which the capacitance pulse ends. -/
  | pulseEnd
  /-- DISCHARGE_END (R148): the millisecond at which a discharge expires. -/
  | dischargeEnd
  /-- RUN_START (R178): CONTROL.RUN written 1. -/
  | runStart
  /-- RUN_STOP (R182): CONTROL.RUN written 0. -/
  | runStop
  /-- FREEZE (R180): CONTROL.FREEZE written `value`. -/
  | freeze (value : Bool)
  /-- RESUME (R181): CONTROL.RESUME written 1. -/
  | resume
  /-- SOFT_RESET (R183): CONTROL.SOFT_RESET written 1. -/
  | softReset
  /-- ENABLES (R176): the CONTROL enables written, bit 0 BATCH to bit 5 MEM_ERROR. -/
  | enables (marks : BitVec 6)
  /-- AREA_BASE (R175): the AREA_BASE register written. -/
  | areaBase (value : Word)
  /-- NUDGE (R175): the NUDGE register written, whatever the value. -/
  | nudge (value : Word)
  /-- CAUSE (R177): the CAUSE register written. -/
  | cause (value : Word)
  /-- IGNORED_REGISTER_WRITE (R175): a write to IDENT or to an offset outside the five registers. -/
  | ignoredRegisterWrite (offset : Nat) (value : Word)
  /-- PIN_RESET (R183): the reset input of the part. -/
  | pinReset
  deriving DecidableEq, Repr

end Sys2Proof
end

