-- ==== Sys2Proof/WellFormed.lean ====
section
/-! DEFINITION. Which commands are well formed: the ranges that the interfaces themselves give their operands
(R3 and R5 for a sample, R61 for a highway frame, R140 for conversions, R172 for the bytes of an access,
R175 for an ignored write). A command outside them is still answered by `exec`. -/

namespace Sys2Proof

/-- The triple of a valid frame: I in −1024..1023, Vt and Vr in −512..511 (R3). -/
def Sample.inRange (smp : Sample) : Bool :=
  decide (-1024 ≤ smp.i) && decide (smp.i ≤ 1023) &&
  decide (-512 ≤ smp.vt) && decide (smp.vt ≤ 511) &&
  decide (-512 ≤ smp.vr) && decide (smp.vr ≤ 511)

/-- A converter count: −2048..2047 (R140). -/
def countInRange (x : Int) : Bool := decide (-2048 ≤ x) && decide (x ≤ 2047)

/-- A highway frame holds at most 128 slots (R61). -/
def slotsFit (slots : List (BitVec 16)) : Bool := decide (slots.length ≤ 128)

/-- An access moves at most 64 bytes (R172). -/
def dataFits (data : List Byte) : Bool := decide (data.length ≤ Config.accessMax)

/-- The offsets of the four registers whose writes are taken (R175, R176, R177). -/
def takenOffset (offset : Nat) : Bool :=
  decide (offset = 0x04) || decide (offset = 0x08) || decide (offset = 0x0C) || decide (offset = 0x10)

/-- Whether a command is well formed. -/
def WellFormed (i : Instr) : Bool :=
  match i with
  | .strobeInstant => true
  | .linkLost _ => true
  | .senseFrame _ _ => true
  | .linkRestored _ bytes => decide (bytes.length = 50)
  | .seizeConfirm _ smp => smp.inRange
  | .release _ smp => smp.inRange
  | .parkedRelease _ smp => smp.inRange
  | .digitEnd _ smp => smp.inRange
  | .firstDigitTimeout _ smp => smp.inRange
  | .interdigitTimeout _ smp => smp.inRange
  | .highwayInstant => true
  | .highwayLost => true
  | .highwayFrame slots => slotsFit slots
  | .highwayRestored slots => decide (slots.length = 128)
  | .blockEnd _ slots => decide (slots.length = 128)
  | .toneWindowExpiry _ smp => smp.inRange
  | .queueWaitNotice _ smp => smp.inRange
  | .conditionConfirm _ c smp => smp.inRange && decide (c ≠ .powerCross)
  | .conditionClear _ c smp => smp.inRange && decide (c ≠ .powerCross)
  | .powerCrossRaise _ smp => smp.inRange
  | .powerCrossClear _ smp => smp.inRange
  | .batchDelayExpiry => true
  | .batchAbsoluteExpiry => true
  | .orderPoll => true
  | .memoryAccessDone data => dataFits data
  | .memoryAccessError => true
  | .memoryAccessTimeout => true
  | .block _ => true
  | .unblock _ => true
  | .attachReceiver _ => true
  | .detachReceiver _ => true
  | .resumeCollection _ => true
  | .reloadProfiles data => dataFits data
  | .reloadPlan data => dataFits data
  | .reloadSettings data => dataFits data
  | .lineTest _ => true
  | .selfCheck => true
  | .testSettleEnd => true
  | .readingDone conversions =>
    decide (conversions.length = Config.readingLength) && conversions.all countInRange
  | .loopWatchRead value => countInRange value
  | .stimulusWaitEnd => true
  | .pulseEnd => true
  | .dischargeEnd => true
  | .runStart => true
  | .runStop => true
  | .freeze _ => true
  | .resume => true
  | .softReset => true
  | .enables _ => true
  | .areaBase _ => true
  | .nudge _ => true
  | .cause _ => true
  | .ignoredRegisterWrite offset _ => !takenOffset offset
  | .pinReset => true

end Sys2Proof
end

