-- ==== Sys2Proof/Decode.lean ====
section
/-! DEFINITION. The command that a word spells by the table's bits. The L96 has no command register and no row of
spec/opcode_table.json carries bits ("fields" is empty in every row), so no word spells a command. -/

namespace Sys2Proof

/-- No row of the table gives bits: no word of any width spells a command. -/
def decodeTableWord (_nbits _w : Nat) : Option Instr := none

end Sys2Proof
end

