-- ==== Sys2Proof/Machine/State.lean ====
section
/-! DEFINITION. The state of the L96 as plain data, every field named by the rule of spec/ that gives it, and the
state after pin reset. Nothing here is a function; the queue of waiting commands is the last field. -/

namespace Sys2Proof.Machine

/-! ## Timers -/

/-- A timer: its value and whether it runs (R11 for sample-counted timers, R123 and R157 for real milliseconds). -/
structure Timer where
  value : Nat := 0
  running : Bool := false
  deriving DecidableEq, Repr

/-! ## Sense links (R4) -/

/-- One link record. `up` is the state UP; `credit` is period credit SET. -/
structure Link where
  up : Bool := false
  lastCount : Nat := 0
  runCount : Nat := 0
  missing : Nat := 0
  credit : Bool := false
  reportRestore : Bool := false
  downSince : Word := 0
  firstSample : Bool := false
  deriving DecidableEq, Repr

/-! ## The Line Conditioner (R13 to R16) -/

/-- The raw or filtered loop state. -/
inductive LoopState where
  | noLoop | loop
  deriving DecidableEq, Repr

/-- The four latches of the agreement filter, the reseed flag and the previous voltages of a line. -/
structure Conditioner where
  pa : LoopState := .noLoop
  qa : LoopState := .noLoop
  pb : LoopState := .noLoop
  qb : LoopState := .noLoop
  reseed : Bool := false
  vtPrev : Int := 0
  vrPrev : Int := 0
  deriving DecidableEq, Repr

/-! ## The Supervision Engine (R17) -/

/-- The hook states, in the order of their encodings (Record Layouts). -/
inductive Hook where
  | notEquipped | onHook | seizePending | active | openInterval | parked | parkedOpen | blocked | testing | guard
  deriving DecidableEq, Repr

/-- The states a line may return to from GUARD or TESTING: ON_HOOK or BLOCKED. -/
inductive ReturnState where
  | onHook | blocked
  deriving DecidableEq, Repr

/-- The supervision record of a line. `b` is the baseline B in sixteenths of a current step. -/
structure Supervision where
  hook : Hook := .notEquipped
  timer : Timer := {}
  breakStart : Word := 0
  b : Nat := 0
  seeded : Bool := false
  tOn : Nat := 1000
  tOff : Nat := 999
  guardReturn : ReturnState := .onHook
  testReturn : ReturnState := .onHook
  startMark : Bool := false
  deriving DecidableEq, Repr

/-! ## The Pulse Decoder (R43) -/

/-- The running state of the make timer. -/
inductive MakeState where
  | stopped | running | held
  deriving DecidableEq, Repr

/-- The pulse decoder record of a line. `trainOpen` is train state OPEN. -/
structure PulseDecoder where
  trainOpen : Bool := false
  count : Nat := 0
  overrun : Bool := false
  make : Nat := 0
  makeState : MakeState := .stopped
  firstBreak : Nat := 0
  p1 : Nat := 0
  share : Nat := 0
  threshold : Nat := 1000
  deriving DecidableEq, Repr

/-! ## The Digit Collector (R83) -/

/-- The source of a symbol, encoded 0 PULSE, 1 TONE. -/
inductive Source where
  | pulse | tone
  deriving DecidableEq, Repr

/-- One entry of a digit string (R90). -/
structure DigitEntry where
  symbol : Symbol
  source : Source
  distorted : Bool
  speed : Bool
  deriving DecidableEq, Repr

/-- The collection states, in the order of their encodings. -/
inductive CollState where
  | idle | collecting | done
  deriving DecidableEq, Repr

/-- The collection record of a line. -/
structure Collection where
  state : CollState := .idle
  string : List DigitEntry := []
  firstDigit : Timer := {}
  interdigit : Timer := {}
  resumed : Bool := false
  deriving DecidableEq, Repr

/-- A used early-string entry of the plan copy (R86): 1..8 symbols and class URGENT or not. -/
structure EarlyEntry where
  symbols : List Symbol
  urgent : Bool
  deriving DecidableEq, Repr

/-- The plan copy (R83, R86). A length entry is `none` for OPEN; an early-string entry is `none` when unused. -/
structure Plan where
  lengths : List (Option Nat) := List.replicate 100 none
  early : List (Option EarlyEntry) := List.replicate 16 none
  deriving DecidableEq, Repr

/-! ## The Fault Monitor (R104) -/

/-- The states of a condition, in the order of their encodings. -/
inductive CondState where
  | clear | suspect | raised | clearing
  deriving DecidableEq, Repr

/-- How a condition was last raised, encoded 0 SENSE, 1 TEST. -/
inductive FaultSource where
  | sense | test
  deriving DecidableEq, Repr

/-- The record of one condition. -/
structure CondRecord where
  state : CondState := .clear
  timer : Timer := {}
  source : FaultSource := .sense
  raisedAt : Word := 0
  deriving DecidableEq, Repr

/-- The fault record of a line: the five conditions, the AC average A16 and the power-cross run count. -/
structure FaultRecord where
  powerCross : CondRecord := {}
  foreignDc : CondRecord := {}
  acInduced : CondRecord := {}
  leakage : CondRecord := {}
  loopShort : CondRecord := {}
  a16 : Nat := 0
  run : Nat := 0
  deriving DecidableEq, Repr

/-! ## Profiles (R134) and settings (R138) -/

/-- dial_mode. -/
inductive DialMode where
  | pulse | tone | both
  deriving DecidableEq, Repr

/-- A line's profile copy. The values here, those of the all-zero record after the clamp and the repairs of R134
and R135, are the copy's values at reset: DESIGN CHOICE, log entry 5 (the spec gives none). -/
structure Profile where
  enabled : Bool := false
  dialMode : DialMode := .both
  flashEnable : Bool := false
  acceptAbcd : Bool := false
  m : Nat := 20
  f : Nat := 40
  h : Nat := 5
  k : Nat := 3
  leakLimit : Nat := 10
  seizeConfirm : Nat := 10
  breakMin : Nat := 10
  pulseBreakMax : Nat := 40
  flashMin : Nat := 80
  flashMax : Nat := 100
  gMin : Nat := 100
  gMax : Nat := 200
  ratioMin : Nat := 50
  ratioMax : Nat := 60
  firstDigitTimeout : Nat := 5
  interdigitTimeout : Nat := 2
  toneWindow : Nat := 2
  queueWaitNotice : Nat := 1
  vtNom : Int := 0
  vrNom : Int := 0
  dcLimit : Nat := 4
  acLimit : Nat := 1
  shortLimit : Nat := 0
  dcConfirm : Nat := 1
  clearTime : Nat := 5
  deriving DecidableEq, Repr

/-- The non-geometry settings held by the part (R138). The values here, those of an all-zero region after the
clamp, are the copy's values at reset: DESIGN CHOICE, log entry 5. -/
structure Settings where
  batchCount : Nat := 1
  batchDelay : Nat := 1
  batchAbsolute : Nat := 0
  roomThreshold : Nat := 0
  orderPoll : Nat := 1
  weightPriority : Nat := 1
  weightRoutine : Nat := 1
  receiversEnabled : Nat := 0
  toneFloor : Nat := 1
  deriving DecidableEq, Repr

/-- The geometry read at the start (R174). Zero at reset: DESIGN CHOICE, log entry 5. -/
structure Geometry where
  journalOffset : Nat := 0
  journalLength : Nat := 0
  priorityOffset : Nat := 0
  priorityLength : Nat := 0
  routineOffset : Nat := 0
  routineLength : Nat := 0
  deriving DecidableEq, Repr

/-! ## One line -/

/-- What the status entry of a line holds beside the records of its owners (R167): FOUND_AT_START (R42),
PROFILE_CLAMPED (R134) and the time of last change (R167). -/
structure EntryMarks where
  foundAtStart : Bool := false
  profileClamped : Bool := false
  lastChange : Word := 0
  deriving DecidableEq, Repr

/-- All the state kept for one line. -/
structure Line where
  cond : Conditioner := {}
  sup : Supervision := {}
  dec : PulseDecoder := {}
  coll : Collection := {}
  fault : FaultRecord := {}
  profile : Profile := {}
  marks : EntryMarks := {}
  deriving DecidableEq, Repr

/-! ## The Tone Receiver Pool (R62, R66) -/

/-- The highway record. `good` is state GOOD; `credit` is period credit SET. -/
structure Highway where
  good : Bool := false
  missing : Nat := 0
  goodRun : Nat := 0
  credit : Bool := false
  reportRestore : Bool := false
  lostSince : Word := 0
  deriving DecidableEq, Repr

/-- FREE, ATTACHED or DISABLED. -/
inductive RxState where
  | free | attached | disabled
  deriving DecidableEq, Repr

/-- The digit state of a receiver (R79). -/
inductive DigitState where
  | quiet | candidate (s : Symbol) | present (s : Symbol) | ending (s : Symbol)
  deriving DecidableEq, Repr

/-- The two latest outputs of one filter: `s1` the last, `s2` the one before it (R76). -/
structure FilterState where
  s1 : Int := 0
  s2 : Int := 0
  deriving DecidableEq, Repr

/-- One tone receiver. `filters` holds the four row filters and then the four column filters. -/
structure Receiver where
  state : RxState := .free
  line : Option LineNo := none
  retire : Bool := false
  blockCount : Nat := 0
  filters : List FilterState := List.replicate 8 {}
  power : Nat := 0
  digit : DigitState := .quiet
  window : Timer := {}
  accepted : Nat := 0
  deriving DecidableEq, Repr

/-- One entry of the wait queue. -/
structure QueueEntry where
  line : LineNo
  wait : Nat := 0
  noticed : Bool := false
  deriving DecidableEq, Repr

/-- The receivers, the enabled count and the wait queue, head first. -/
structure Pool where
  enabledCount : Nat := 8
  rx : Vector Receiver 8 := Vector.replicate 8 {}
  queue : List QueueEntry := []
  deriving DecidableEq, Repr

/-! ## Records (spec/09, Record kinds; Record Layouts) -/

/-- The reason of ON_HOOK, encoded 1 RELEASE, 2 GUARD, 3 DISABLED. -/
inductive OnHookReason where
  | release | guard | disabled
  deriving DecidableEq, Repr

/-- The reason of NUMBER, encoded 1 to 5. -/
inductive NumberReason where
  | early | terminator | length | full | timeout
  deriving DecidableEq, Repr

/-- The finding of a test, encoded 0 NONE, 1 VOLTAGE, 2 FOREIGN_SOURCE. -/
inductive Finding where
  | none | voltage | foreignSource
  deriving DecidableEq, Repr

/-- The contents of FIRST_DIGIT and LATE_DIGIT (R91, R100). `receiver` is the receiver number of a tone LATE_DIGIT. -/
structure DigitReport where
  symbol : Symbol
  source : Source
  distorted : Bool
  speed : Bool
  resumed : Bool
  p1 : Nat
  share : Nat
  receiver : Option RxNo
  deriving DecidableEq, Repr

/-- The pulse contents of DIAL_ERROR (R56). -/
structure TrainReport where
  count : Nat
  overrun : Bool
  p1 : Nat
  share : Nat
  cutting : Nat
  deriving DecidableEq, Repr

/-- The contents of a record, by kind. -/
inductive RecordBody where
  /-- R21 -/
  | offHook (current : Nat) (foundAtStart : Bool) (rEst : Option Nat)
  /-- R41 -/
  | onHook (reason : OnHookReason) (fromParked : Bool) (uncompleted : Nat) (time : Word)
  /-- R26 -/
  | flash (t : Nat) (discarded : Nat)
  /-- R27 -/
  | park
  /-- R91 -/
  | firstDigit (d : DigitReport)
  /-- R97 -/
  | number (string : List DigitEntry) (reason : NumberReason) (early : Option Nat) (resumed : Bool)
  /-- R99 -/
  | noDigits (resumed : Bool)
  /-- R100 -/
  | lateDigit (d : DigitReport)
  /-- R55, R56 -/
  | trainCut (t : TrainReport)
  /-- R54, R56 -/
  | pulseOverrun (t : TrainReport)
  /-- R80 -/
  | symbolRefused (r : RxNo) (s : Symbol)
  /-- R72 -/
  | rxDelay (position : Nat) (length : Nat)
  /-- R73 -/
  | rxWindow (r : RxNo) (accepted : Nat)
  /-- R120 -/
  | faultRaised (c : Condition) (source : FaultSource) (finding : Finding) (hook : Hook) (value : Int)
  /-- R121 -/
  | faultCleared (c : Condition) (source : FaultSource) (raisedAt : Word)
  /-- R9 -/
  | linkLost (g : LinkNo) (lastCount : Nat)
  /-- R9 -/
  | linkRestored (g : LinkNo) (count : Nat) (downSince : Word)
  /-- R65 -/
  | highwayLost (attached : Nat)
  /-- R65 -/
  | highwayRestored (lostSince : Word)
  /-- R160 -/
  | gap (dropped : Nat) (firstDrop : Word) (lines : LineSet)
  /-- R178 step 6 -/
  | runStarted (journal priority routine : Nat) (settingsClamped linesClamped : Nat)
  deriving DecidableEq, Repr

/-- A staged record: its line or none, the cabinet time of its staging, and its contents (R158). -/
structure Record where
  line : Option LineNo
  time : Word
  body : RecordBody
  deriving DecidableEq, Repr

/-! ## The Journal Unit (R157) -/

/-- What the Journal Unit is doing: a batch, the final batch of a stop (R170), or a FULL re-read (R165). -/
inductive WorkKind where
  | normal | final | recheck
  deriving DecidableEq, Repr

/-- Where the Journal Unit's sequence stands (R163 to R168). In `entries c` it looks for the next dirty line from
`c` up, or else writes the status block; in `entryWrite L` the entry of `L` is being written. -/
inductive WorkStep where
  | readOwner | writeBody | writeFilled | roomRead | entries (cursor : Nat) | entryWrite (L : LineNo) | block
  deriving DecidableEq, Repr

/-- The sequence in progress: its kind, the taken records not yet written, the records written, and its step. -/
structure Work where
  kind : WorkKind
  taken : Nat
  wrote : Nat
  step : WorkStep
  deriving DecidableEq, Repr

/-- A batch timer with the limit it was started with (R162). -/
structure LimitTimer where
  timer : Timer := {}
  limit : Nat := 0
  deriving DecidableEq, Repr

/-- The Journal Unit record. -/
structure Journal where
  queue : List Record := []
  nextIndex : Nat := 0
  work : Option Work := none
  batchOwed : Bool := false
  recheckOwed : Bool := false
  delay : LimitTimer := {}
  absolute : LimitTimer := {}
  dropped : Nat := 0
  gapSet : LineSet := 0
  firstDrop : Word := 0
  full : Bool := false
  roomLow : Bool := false
  dirty : LineSet := 0
  deriving DecidableEq, Repr

/-! ## The Order Executor (R123) -/

/-- The two order lists. -/
inductive OrderList where
  | priority | routine
  deriving DecidableEq, Repr

/-- The executor's copy of an order record with its list and slot (R128). -/
structure Order where
  list : OrderList
  slot : Nat
  bytes : List Byte
  deriving DecidableEq, Repr

/-- The result of an order: its code and its result data, bytes 0x05 up (R130). -/
structure OrderResult where
  code : Nat
  data : List Byte
  deriving DecidableEq, Repr

/-- The work of an order in execution: the Test Engine's, or reads of the exchange area with what they have given. -/
inductive OrderWork where
  | engine
  | profiles (next left applied clampedLines clampedFields : Nat)
  | plan (lengths early : List Byte)
  | settings (bytes : List Byte)
  deriving DecidableEq, Repr

/-- The phase of the executor (R123), with the data the phase holds: the choice of a look (R127), the copy of a
take (R128), the order in execution (R129) and its result (R130). -/
inductive ExecPhase where
  | idle
  | lookPriority
  | lookRoutine (priorityReady : Bool)
  | takeRead (list : OrderList) (served : Nat)
  | takeWrite (order : Order) (served : Nat)
  | executing (order : Order) (work : OrderWork)
  | writeResult (order : Order) (result : OrderResult)
  | writeDone (order : Order)
  deriving DecidableEq, Repr

/-- The executor record. -/
structure Executor where
  phase : ExecPhase := .idle
  nextPriority : Nat := 0
  nextRoutine : Nat := 0
  current : OrderList := .priority
  served : Nat := 0
  poll : Timer := {}
  lookOwed : Bool := false
  deriving DecidableEq, Repr

/-! ## The Test Engine (R139) -/

/-- The phases of the Test Engine. -/
inductive TestPhase where
  | idle | settling | measuring | discharging | closing | checking
  deriving DecidableEq, Repr

/-- The three resistances. -/
inductive ResQ where
  | tg | rg | tr
  deriving DecidableEq, Repr

/-- What the test bus applies to the connected pair. -/
inductive Stimulus where
  | none | zero | dc50 (q : ResQ) | pulse
  deriving DecidableEq, Repr

/-- What a reading measures: a channel for a quantity, or an internal reference (R140, R154). -/
inductive ReadTarget where
  | tip | ring | drive (q : ResQ) | currentHigh (q : ResQ) | currentLow (q : ResQ) | v0 | v1
  | refZero | refMid | refFull
  deriving DecidableEq, Repr

/-- What follows a discharge (R148). -/
inductive AfterDischarge where
  | resistance | capacitance | close
  deriving DecidableEq, Repr

/-- Where the test stands, with the real milliseconds passed in a timed step: the model's own spelling of the
order of events that R143 to R154 give. -/
inductive TestStep where
  | idle
  | settle (ms : Nat)
  | discharge (ms : Nat) (next : AfterDischarge)
  | stimulusWait (q : ResQ) (ms : Nat)
  | pulse (ms : Nat)
  | reading (t : ReadTarget)
  | watch (t : ReadTarget) (dc ac : Int)
  deriving DecidableEq, Repr

/-- The verified reading in progress: the target, the readings taken and the last reading (R141). -/
structure Series where
  target : Option ReadTarget := none
  taken : Nat := 0
  last : Int := 0
  deriving DecidableEq, Repr

/-- A quantity of a LINE_TEST with its flags (`beyond` is OVER); `measured` says that it has been completed. -/
structure Quantity where
  value : Int := 0
  notRun : Bool := true
  skipped : Bool := false
  unstable : Bool := false
  beyond : Bool := false
  coarse : Bool := false
  foreign : Bool := false
  measured : Bool := false
  deriving DecidableEq, Repr

/-- The eight quantities of a LINE_TEST. -/
structure Quantities where
  tipDc : Quantity := {}
  tipAc : Quantity := {}
  ringDc : Quantity := {}
  ringAc : Quantity := {}
  rTg : Quantity := {}
  rRg : Quantity := {}
  rTr : Quantity := {}
  cTr : Quantity := {}
  deriving DecidableEq, Repr

/-- A verified value with its UNSTABLE flag. -/
structure Verified where
  value : Int := 0
  unstable : Bool := false
  deriving DecidableEq, Repr

/-- The Test Engine record. `rangeLow` is current range LOW; `suspect` is converter state SUSPECT. The values held
between the steps of one quantity (`drive`, `high`, `base`, the references), the mask and `seized` are what R144
to R154 carry from step to step. -/
structure TestEngine where
  phase : TestPhase := .idle
  step : TestStep := .idle
  connection : Option LineNo := none
  stimulus : Stimulus := .none
  charged : Bool := false
  rangeLow : Bool := false
  series : Series := {}
  results : Quantities := {}
  finding : Finding := .none
  suspect : Bool := false
  mask : Nat := 0
  seized : Bool := false
  drive : Verified := {}
  high : Verified := {}
  base : Verified := {}
  refZero : Verified := {}
  refMid : Verified := {}
  deriving DecidableEq, Repr

/-! ## The Run Control (R172 to R183) -/

/-- The control states, in the order of their encodings. -/
inductive ControlState where
  | stopped | starting | running | frozen | stopping | memoryError
  deriving DecidableEq, Repr

/-- The start results, in the order of their encodings. -/
inductive StartResult where
  | none | ok | badLayout | memError | aborted
  deriving DecidableEq, Repr

/-- The six causes, in the order of their bits. -/
inductive Cause where
  | batch | roomLow | full | order | frozen | memError
  deriving DecidableEq, Repr

/-- The users of the memory port. `start` is the start sequence, the one user in STARTING (R172). -/
inductive MemUnit where
  | journal | executor | start
  deriving DecidableEq, Repr

/-- One access to the exchange area (R172): the unit, the direction, the offset from AREA_BASE, the bytes it moves
(of a read, only their number counts) and the bus address it was granted with. -/
structure Access where
  unit : MemUnit
  write : Bool
  offset : Nat
  length : Nat
  data : List Byte
  address : Word
  deriving DecidableEq, Repr

/-- The memory port. `live` is false when a stop has abandoned the sequence that the access in flight belongs to:
its outcome is then not used by its unit (R131, R182). -/
inductive Port where
  | free
  | busy (access : Access) (live : Bool)
  deriving DecidableEq, Repr

/-- Where the start sequence stands (R178), with the bytes read so far. -/
inductive StartStep where
  | settings (bytes : List Byte)
  | plan (lengths early : List Byte)
  | profile (line : LineNo)
  | entry (line : LineNo)
  | block
  deriving DecidableEq, Repr

/-- The start sequence in progress: its step, the clamped settings fields and the clamped lines (R178). -/
structure StartSeq where
  step : StartStep
  settingsClamped : Nat := 0
  linesClamped : Nat := 0
  deriving DecidableEq, Repr

/-- The Run Control record. `enables` and `causes` have bit 0 BATCH to bit 5 MEM_ERROR; `lastGrantJournal` is
last grant JOURNAL. -/
structure RunControl where
  control : ControlState := .stopped
  startResult : StartResult := .none
  freezeAsked : Bool := false
  enables : BitVec 6 := 0
  causes : BitVec 6 := 0
  areaBase : Word := 0
  port : Port := .free
  lastGrantJournal : Bool := false
  failed : Option Access := none
  start : Option StartSeq := none
  deriving DecidableEq, Repr

/-! ## The whole part -/

/-- The state of the L96. `strobeOut` is the scan strobe output as the latest strobe instant left it (R2).
`pending` is the queue of commands that wait, first in, first out. -/
structure State where
  time : Word := 0
  strobeOut : Bool := false
  links : Vector Link 12 := Vector.replicate 12 {}
  lines : Vector Line 96 := Vector.replicate 96 {}
  highway : Highway := {}
  pool : Pool := {}
  plan : Plan := {}
  settings : Settings := {}
  geometry : Geometry := {}
  journal : Journal := {}
  executor : Executor := {}
  test : TestEngine := {}
  run : RunControl := {}
  pending : List Instr := []
  deriving DecidableEq, Repr

/-- The part right after pin reset: R1, R4, R13 to R17, R43, R62, R66, R83, R104, R123, R139, R157 and R183 give
every field but the profile copies, the settings, the geometry and two marks of the status entry, whose values
log entry 5 names. -/
def State.reset : State := {}

/-- Why the machine stops with a fault. No command of the L96 does: the spec gives every command an effect in every
state (R3, R61, R175 and R183 discard or ignore what does not apply), so this type has no constructor and nobody
raises a fault; that is safe, since no behaviour is cut off. -/
inductive Fault where
  deriving DecidableEq, Repr

/-- Why a command is refused. `notModelled` stands only in arms of `exec` that have no meaning yet; there is none.
Raised by nobody; a refusal is safe, since a run that stops proves nothing false. -/
inductive Refusal where
  | notModelled (mnemonic : String)
  deriving DecidableEq, Repr

end Sys2Proof.Machine
end

