-- ==== Sys2Proof/Machine/Bytes.lean ====
section
/-! DEFINITION. Bytes and multi-byte fields: little-endian, signed fields in two's complement, reserved bytes
written as 0 (spec/11_record_layouts.md and R184). -/

namespace Sys2Proof.Machine

/-- The byte at an offset; 0 beyond the end. -/
def rd8 (bs : List Byte) (o : Nat) : Nat := (bs.getD o 0#8).toNat

/-- The unsigned 16-bit field at an offset. -/
def rd16 (bs : List Byte) (o : Nat) : Nat := rd8 bs o + 256 * rd8 bs (o + 1)

/-- The unsigned 32-bit field at an offset. -/
def rd32 (bs : List Byte) (o : Nat) : Nat := rd16 bs o + 65536 * rd16 bs (o + 2)

/-- The unsigned 64-bit field at an offset. -/
def rd64 (bs : List Byte) (o : Nat) : Nat := rd32 bs o + 4294967296 * rd32 bs (o + 4)

/-- The signed 16-bit field at an offset. -/
def rdS16 (bs : List Byte) (o : Nat) : Int :=
  if rd16 bs o < 32768 then (rd16 bs o : Int) else (rd16 bs o : Int) - 65536

/-- The `k` low bytes of a number, least significant first. -/
def leBytes : Nat → Nat → List Byte
  | 0, _ => []
  | k + 1, n => BitVec.ofNat 8 n :: leBytes k (n / 256)

/-- The `k` low bytes of an integer in two's complement, least significant first. -/
def leInt (k : Nat) (x : Int) : List Byte := leBytes k (x % (256 ^ k : Int)).toNat

/-- Bytes written over a region from an offset up. -/
def overlay : List Byte → Nat → List Byte → List Byte
  | region, _, [] => region
  | region, o, b :: bs => overlay (region.set o b) (o + 1) bs

/-- A region of `size` zero bytes with the given fields written over it (R184: reserved bytes are 0). -/
def layout (size : Nat) (fields : List (Nat × List Byte)) : List Byte :=
  fields.foldl (fun region f => overlay region f.1 f.2) (List.replicate size 0#8)

/-- A single-byte field. -/
def byteField (o n : Nat) : Nat × List Byte := (o, leBytes 1 n)

/-- A two-byte field. -/
def halfField (o n : Nat) : Nat × List Byte := (o, leBytes 2 n)

/-- A four-byte field. -/
def wordField (o n : Nat) : Nat × List Byte := (o, leBytes 4 n)

/-- Every entry of a vector replaced by what `f` makes of it; by way of the list, so that the kernel can evaluate it. -/
def mapEach {α : Type} {n : Nat} (f : α → α) (v : Vector α n) : Vector α n :=
  ⟨(v.toArray.toList.map f).toArray, by simp⟩

/-- 1 for true, 0 for false. -/
def bit (b : Bool) : Nat := if b then 1 else 0

end Sys2Proof.Machine
end

