-- ==== Sys2Proof/Machine/Operands.lean ====
section
/-! DEFINITION. What the part reads: sense frames, profiles, settings, geometry, the plan tables and order records,
each with its validity check, clamp and repair (R3, R86, R129, R134, R135, R138, R174 and spec/11). -/

namespace Sys2Proof.Machine

/-! ## Sense frames -/

/-- The measured values of one position of a frame. -/
structure Triple where
  i : Int
  vt : Int
  vr : Int
  deriving DecidableEq, Repr

/-- A valid frame: its count and its eight triples, position 0 first. -/
structure Frame where
  count : Nat
  triples : List Triple
  deriving DecidableEq, Repr

/-- The triple of position `p` (spec/11, Sense frame). -/
def tripleAt (bs : List Byte) (p : Nat) : Triple :=
  ⟨rdS16 bs (1 + 6 * p), rdS16 bs (3 + 6 * p), rdS16 bs (5 + 6 * p)⟩

/-- The ranges of R3: I in −1024..1023, Vt and Vr in −512..511. -/
def Triple.inRange (t : Triple) : Bool :=
  decide (-1024 ≤ t.i) && decide (t.i ≤ 1023) &&
  decide (-512 ≤ t.vt) && decide (t.vt ≤ 511) &&
  decide (-512 ≤ t.vr) && decide (t.vr ≤ 511)

/-- The sum of a frame's bytes. -/
def byteSum (bs : List Byte) : Nat := bs.foldl (fun acc b => acc + b.toNat) 0

/-- A frame as R3 checks it: 50 bytes, sum 0 modulo 256, count 0..15, every value in range; `none` if invalid. -/
def parseFrame (bs : List Byte) : Option Frame :=
  let triples := (List.range 8).map (tripleAt bs)
  if bs.length = 50 ∧ byteSum bs % 256 = 0 ∧ rd8 bs 0 ≤ 15 ∧ triples.all Triple.inRange = true then
    some ⟨rd8 bs 0, triples⟩
  else none

/-- The sample of position `p` of a frame, with the frame's elapsed value (R10). -/
def Frame.sample (fr : Frame) (p : Fin 8) (elapsed : Fin 16) : Sample :=
  let t := fr.triples.getD p.val ⟨0, 0, 0⟩
  ⟨t.i, t.vt, t.vr, elapsed⟩

/-! ## Clamping -/

/-- To clamp a number to `lo..hi` (spec/00_scope.md, Arithmetic). -/
def clamp (lo hi x : Nat) : Nat := if x < lo then lo else if hi < x then hi else x

/-- To clamp an integer to `lo..hi`. -/
def clampInt (lo hi x : Int) : Int := if x < lo then lo else if hi < x then hi else x

/-! ## Line profiles -/

/-- dial_mode: 1 PULSE, 2 TONE, 3 BOTH, any other value read as BOTH (R134). -/
def dialModeOf (n : Nat) : DialMode := if n = 1 then .pulse else if n = 2 then .tone else .both

/-- The encoding of a dial mode. -/
def DialMode.code : DialMode → Nat
  | .pulse => 1
  | .tone => 2
  | .both => 3

/-- Whether pulse digits are decoded: PULSE or BOTH. -/
def DialMode.hasPulse : DialMode → Bool
  | .tone => false
  | _ => true

/-- Whether a receiver is asked for: TONE or BOTH. -/
def DialMode.hasTone : DialMode → Bool
  | .pulse => false
  | _ => true

/-- The 29 fields of a profile record as numbers, in the order of spec/11: the unsigned ones, and then the two
signed voltages. -/
def rawFields (bs : List Byte) : List Int :=
  [(rd8 bs 0x00 : Int), rd8 bs 0x01, rd8 bs 0x02, rd8 bs 0x03, rd16 bs 0x04, rd16 bs 0x06, rd8 bs 0x08, rd8 bs 0x09,
   rd16 bs 0x0A, rd16 bs 0x0C, rd16 bs 0x0E, rd16 bs 0x10, rd16 bs 0x12, rd16 bs 0x14, rd16 bs 0x16, rd16 bs 0x18,
   rd8 bs 0x1A, rd8 bs 0x1B, rd8 bs 0x1C, rd8 bs 0x1D, rd8 bs 0x1E, rd8 bs 0x1F, rd8 bs 0x24, rd8 bs 0x25,
   rd16 bs 0x26, rd8 bs 0x28, rd8 bs 0x29, rdS16 bs 0x20, rdS16 bs 0x22]

/-- The same fields of a profile copy, in the same order. -/
def Profile.fields (p : Profile) : List Int :=
  [(bit p.enabled : Int), p.dialMode.code, bit p.flashEnable, bit p.acceptAbcd, p.m, p.f, p.h, p.k,
   p.leakLimit, p.seizeConfirm, p.breakMin, p.pulseBreakMax, p.flashMin, p.flashMax, p.gMin, p.gMax,
   p.ratioMin, p.ratioMax, p.firstDigitTimeout, p.interdigitTimeout, p.toneWindow, p.queueWaitNotice, p.dcLimit,
   p.acLimit, p.shortLimit, p.dcConfirm, p.clearTime, p.vtNom, p.vrNom]

/-- The profile of a 48-byte record with every field clamped to its range (R134). -/
def clampedProfile (bs : List Byte) : Profile where
  enabled := decide (rd8 bs 0x00 ≠ 0)
  dialMode := dialModeOf (rd8 bs 0x01)
  flashEnable := decide (rd8 bs 0x02 ≠ 0)
  acceptAbcd := decide (rd8 bs 0x03 ≠ 0)
  m := clamp 20 400 (rd16 bs 0x04)
  f := clamp 40 300 (rd16 bs 0x06)
  h := clamp 5 100 (rd8 bs 0x08)
  k := clamp 3 8 (rd8 bs 0x09)
  leakLimit := clamp 10 300 (rd16 bs 0x0A)
  seizeConfirm := clamp 10 250 (rd16 bs 0x0C)
  breakMin := clamp 10 40 (rd16 bs 0x0E)
  pulseBreakMax := clamp 40 120 (rd16 bs 0x10)
  flashMin := clamp 80 400 (rd16 bs 0x12)
  flashMax := clamp 100 1000 (rd16 bs 0x14)
  gMin := clamp 100 400 (rd16 bs 0x16)
  gMax := clamp 200 1000 (rd16 bs 0x18)
  ratioMin := clamp 50 70 (rd8 bs 0x1A)
  ratioMax := clamp 60 80 (rd8 bs 0x1B)
  firstDigitTimeout := clamp 5 60 (rd8 bs 0x1C)
  interdigitTimeout := clamp 2 30 (rd8 bs 0x1D)
  toneWindow := clamp 2 60 (rd8 bs 0x1E)
  queueWaitNotice := clamp 1 30 (rd8 bs 0x1F)
  vtNom := clampInt (-512) 511 (rdS16 bs 0x20)
  vrNom := clampInt (-512) 511 (rdS16 bs 0x22)
  dcLimit := clamp 4 100 (rd8 bs 0x24)
  acLimit := clamp 1 200 (rd8 bs 0x25)
  shortLimit := clamp 0 2000 (rd16 bs 0x26)
  dcConfirm := clamp 1 50 (rd8 bs 0x28)
  clearTime := clamp 5 100 (rd8 bs 0x29)

/-- Repair 1 of R135. -/
def repairFlashMin (p : Profile) : Profile :=
  if p.flashMin ≤ p.pulseBreakMax then { p with flashMin := p.pulseBreakMax + 1 } else p

/-- Repair 2 of R135. -/
def repairFlashMax (p : Profile) : Profile :=
  if p.flashMax < p.flashMin then { p with flashMax := p.flashMin } else p

/-- Repair 3 of R135. -/
def repairBreakMin (p : Profile) : Profile :=
  if p.pulseBreakMax ≤ p.breakMin then { p with breakMin := p.pulseBreakMax - 1 } else p

/-- Repair 4 of R135. -/
def repairGMax (p : Profile) : Profile :=
  if p.gMax < p.gMin then { p with gMax := p.gMin } else p

/-- Repair 5 of R135. -/
def repairRatioMax (p : Profile) : Profile :=
  if p.ratioMax < p.ratioMin then { p with ratioMax := p.ratioMin } else p

/-- The profile that a 48-byte record gives: clamped, then repaired in the order of R135. -/
def parseProfile (bs : List Byte) : Profile :=
  repairRatioMax (repairGMax (repairBreakMin (repairFlashMax (repairFlashMin (clampedProfile bs)))))

/-- How many places of two lists hold different numbers. -/
def countChanged : List Int → List Int → Nat
  | a :: as, b :: bs => (if a = b then 0 else 1) + countChanged as bs
  | _, _ => 0

/-- How many fields of a record were clamped or repaired; a field counts once however it was changed (R133, R135). -/
def profileClamped (bs : List Byte) : Nat := countChanged (rawFields bs) (parseProfile bs).fields

/-! ## Settings and geometry -/

/-- batch_absolute: 0, or 1..1000 ms (R138). -/
def clampAbsolute (x : Nat) : Nat := if 1000 < x then 1000 else x

/-- The non-geometry settings of the region, clamped; `journalLength` bounds room_threshold (R138). -/
def parseSettings (journalLength : Nat) (bs : List Byte) : Settings where
  batchCount := clamp 1 32 (rd8 bs 0x20)
  batchDelay := clamp 1 255 (rd8 bs 0x21)
  batchAbsolute := clampAbsolute (rd16 bs 0x22)
  roomThreshold := clamp 0 (journalLength - 1) (rd16 bs 0x24)
  orderPoll := clamp 1 1000 (rd16 bs 0x26)
  weightPriority := clamp 1 15 (rd8 bs 0x28)
  weightRoutine := clamp 1 15 (rd8 bs 0x29)
  receiversEnabled := clamp 0 8 (rd8 bs 0x2A)
  toneFloor := clamp 1 (2 ^ 40 - 1) (rd64 bs 0x30)

/-- The raw values of the same fields. -/
def rawSettings (bs : List Byte) : List Int :=
  [(rd8 bs 0x20 : Int), rd8 bs 0x21, rd16 bs 0x22, rd16 bs 0x24, rd16 bs 0x26, rd8 bs 0x28, rd8 bs 0x29, rd8 bs 0x2A,
   rd64 bs 0x30]

/-- The values of the settings, in the order of `rawSettings`. -/
def Settings.fields (s : Settings) : List Int :=
  [(s.batchCount : Int), s.batchDelay, s.batchAbsolute, s.roomThreshold, s.orderPoll, s.weightPriority,
   s.weightRoutine, s.receiversEnabled, s.toneFloor]

/-- How many settings fields were clamped (R138). -/
def settingsClamped (journalLength : Nat) (bs : List Byte) : Nat :=
  countChanged (rawSettings bs) (parseSettings journalLength bs).fields

/-- The six geometry fields of the region, not clamped (R174, R184). -/
def parseGeometry (bs : List Byte) : Geometry :=
  ⟨rd32 bs 0x00, rd16 bs 0x04, rd32 bs 0x08, rd16 bs 0x0C, rd32 bs 0x10, rd16 bs 0x14⟩

/-- Whether a region of `len` records at `off` lies wholly in 0x2000..0xFFFFF. -/
def regionFits (off len : Nat) : Bool := decide (0x2000 ≤ off) && decide (off + 32 * len ≤ 0x100000)

/-- Whether two regions share no byte. -/
def regionsApart (off₁ len₁ off₂ len₂ : Nat) : Bool :=
  decide (off₁ + 32 * len₁ ≤ off₂) || decide (off₂ + 32 * len₂ ≤ off₁)

/-- The geometry check of R174. -/
def Geometry.passes (g : Geometry) : Bool :=
  decide (16 ≤ g.journalLength) && decide (g.journalLength ≤ 1024) && decide (g.journalLength % 8 = 0) &&
  decide (8 ≤ g.priorityLength) && decide (g.priorityLength ≤ 256) && decide (g.priorityLength % 8 = 0) &&
  decide (8 ≤ g.routineLength) && decide (g.routineLength ≤ 256) && decide (g.routineLength % 8 = 0) &&
  decide (g.journalOffset % 32 = 0) && decide (g.priorityOffset % 32 = 0) && decide (g.routineOffset % 32 = 0) &&
  regionFits g.journalOffset g.journalLength && regionFits g.priorityOffset g.priorityLength &&
  regionFits g.routineOffset g.routineLength &&
  regionsApart g.journalOffset g.journalLength g.priorityOffset g.priorityLength &&
  regionsApart g.journalOffset g.journalLength g.routineOffset g.routineLength &&
  regionsApart g.priorityOffset g.priorityLength g.routineOffset g.routineLength

/-! ## The dial plan -/

/-- A length entry as R86 stores it: 0 OPEN, 1 as 2, 25..255 as 24. -/
def storedLength (n : Nat) : Option Nat :=
  if n = 0 then none else if n = 1 then some 2 else if 24 < n then some 24 else some n

/-- Whether a length entry is stored with a value other than the one read (R137). -/
def lengthAltered (n : Nat) : Bool := decide (n = 1) || decide (24 < n)

/-- Symbol `j` of the early-string entry at `o`: two symbols to a byte, the lower-numbered in bits 3..0. -/
def earlySymbol (bs : List Byte) (o j : Nat) : Symbol :=
  let b := rd8 bs (o + 2 + j / 2)
  ⟨(if j % 2 = 0 then b else b / 16) % 16, Nat.mod_lt _ (by decide)⟩

/-- Early-string entry `i` of the table as R86 stores it. -/
def storedEarly (bs : List Byte) (i : Nat) : Option EarlyEntry :=
  let o := 12 * i
  let len := rd8 bs o
  if len = 0 ∨ 8 < len then none
  else some ⟨(List.range len).map (earlySymbol bs o), decide (rd8 bs (o + 1) = 1)⟩

/-- The plan copy that the bytes of both tables give (R86). -/
def parsePlan (lengths early : List Byte) : Plan :=
  ⟨(List.range 100).map (fun i => storedLength (rd8 lengths i)), (List.range 16).map (storedEarly early)⟩

/-- The number of used early-string entries of a plan (R137). -/
def Plan.usedEarly (p : Plan) : Nat := (p.early.filter Option.isSome).length

/-- The number of length entries stored altered (R137). -/
def alteredLengths (lengths : List Byte) : Nat :=
  ((List.range 100).filter (fun i => lengthAltered (rd8 lengths i))).length

/-! ## Order records -/

/-- The kinds of orders (spec/11, Order record). -/
inductive OrderKind where
  | lineTest | selfCheck | block | unblock | reloadProfiles | reloadPlan | reloadSettings
  | attachReceiver | detachReceiver | resumeCollection
  deriving DecidableEq, Repr

/-- The kind a kind field holds; `none` for an unknown kind (BAD_KIND, R129 and R184). -/
def orderKindOf : Nat → Option OrderKind
  | 1 => some .lineTest
  | 2 => some .selfCheck
  | 3 => some .block
  | 4 => some .unblock
  | 5 => some .reloadProfiles
  | 6 => some .reloadPlan
  | 7 => some .reloadSettings
  | 8 => some .attachReceiver
  | 9 => some .detachReceiver
  | 10 => some .resumeCollection
  | _ => none

/-- The kind of an order, from the executor's copy. -/
def Order.kind (o : Order) : Option OrderKind := orderKindOf (rd8 o.bytes 1)

/-- The line field of an order. -/
def Order.lineField (o : Order) : Nat := rd8 o.bytes 2

/-- The count field of RELOAD_PROFILES, or the mask of LINE_TEST. -/
def Order.count (o : Order) : Nat := rd8 o.bytes 3

/-- The state field of an order record reads READY (R124, R184). -/
def isReady (bs : List Byte) : Bool := decide (rd8 bs 0 = 1)

/-- The owner field of a journal slot reads EMPTY (R171, R184). -/
def isEmpty (bs : List Byte) : Bool := decide (rd8 bs 0 = 0)

end Sys2Proof.Machine
end

