-- ==== Sys2Proof/Machine/Ops.lean ====
section
/-! DEFINITION. The shared operations over the state: one line's records, timers, causes, the marks of the status
entry, staging a record and the batch triggers (R11, R42, R158 to R162, R167, R177). -/

namespace Sys2Proof.Machine

/-! ## One record at a time -/

/-- The state of one line. -/
def State.line (s : State) (L : LineNo) : Line := s.lines[L.val]

/-- The state with one line's state replaced. -/
def State.setLine (s : State) (L : LineNo) (ln : Line) : State := { s with lines := s.lines.set L.val ln }

/-- One link record. -/
def State.link (s : State) (g : LinkNo) : Link := s.links[g.val]

/-- The state with one link record replaced. -/
def State.setLink (s : State) (g : LinkNo) (l : Link) : State := { s with links := s.links.set g.val l }

/-- One receiver record. -/
def State.receiver (s : State) (r : RxNo) : Receiver := s.pool.rx[r.val]

/-- The state with one receiver record replaced. -/
def State.setReceiver (s : State) (r : RxNo) (rx : Receiver) : State :=
  { s with pool := { s.pool with rx := s.pool.rx.set r.val rx } }

/-- The state with another wait queue. -/
def State.setQueue (s : State) (q : List QueueEntry) : State := { s with pool := { s.pool with queue := q } }

/-- The state with another Journal Unit record. -/
def State.setJournal (s : State) (j : Journal) : State := { s with journal := j }

/-- The state with another executor record. -/
def State.setExecutor (s : State) (e : Executor) : State := { s with executor := e }

/-- The state with another Test Engine record. -/
def State.setTest (s : State) (t : TestEngine) : State := { s with test := t }

/-- The state with another Run Control record. -/
def State.setRun (s : State) (r : RunControl) : State := { s with run := r }

/-- The state with another highway record. -/
def State.setHighway (s : State) (h : Highway) : State := { s with highway := h }

/-- The state with one line's supervision record replaced. -/
def State.setSup (s : State) (L : LineNo) (x : Supervision) : State := s.setLine L { s.line L with sup := x }

/-- The state with one line's conditioner replaced. -/
def State.setCond (s : State) (L : LineNo) (x : Conditioner) : State := s.setLine L { s.line L with cond := x }

/-- The state with one line's pulse decoder record replaced. -/
def State.setDec (s : State) (L : LineNo) (x : PulseDecoder) : State := s.setLine L { s.line L with dec := x }

/-- The state with one line's collection record replaced. -/
def State.setColl (s : State) (L : LineNo) (x : Collection) : State := s.setLine L { s.line L with coll := x }

/-- The state with one line's fault record replaced. -/
def State.setFault (s : State) (L : LineNo) (x : FaultRecord) : State := s.setLine L { s.line L with fault := x }

/-- The state with one line's profile copy replaced. -/
def State.setProfile (s : State) (L : LineNo) (x : Profile) : State := s.setLine L { s.line L with profile := x }

/-- The state with one line's entry marks replaced. -/
def State.setMarks (s : State) (L : LineNo) (x : EntryMarks) : State := s.setLine L { s.line L with marks := x }

/-! ## Timers (R11) -/

/-- A sample-counted timer advances by the elapsed value if it runs, and saturates (R11). -/
def Timer.advance (t : Timer) (e : Nat) : Timer :=
  if t.running then { t with value := min Config.timerMax (t.value + e) } else t

/-- A timer set to 0 and started. -/
def Timer.started : Timer := ⟨0, true⟩

/-- A timer stopped; it keeps its value, which nothing reads (log entry 12). -/
def Timer.stop (t : Timer) : Timer := { t with running := false }

/-- A running timer reaches a limit when its value is equal to or greater than it (R11). -/
def Timer.reached (t : Timer) (limit : Nat) : Bool := t.running && decide (limit ≤ t.value)

/-! ## Causes and control states (R177) -/

/-- The bit of a cause in CAUSE and in the enables. -/
def Cause.index : Cause → Nat
  | .batch => 0
  | .roomLow => 1
  | .full => 2
  | .order => 3
  | .frozen => 4
  | .memError => 5

/-- A cause mark becomes 1 (R177). -/
def State.raiseCause (s : State) (c : Cause) : State :=
  s.setRun { s.run with causes := s.run.causes ||| BitVec.twoPow 6 c.index }

/-- The control states in which the links, the lines, the highway and the tests run: RUNNING, FROZEN and
MEMORY_ERROR (R3, R4, R61, spec/08 Notes). -/
def ControlState.live : ControlState → Bool
  | .running => true
  | .frozen => true
  | .memoryError => true
  | _ => false

/-! ## Sets of lines -/

/-- A line added to a set. -/
def LineSet.add (x : LineSet) (L : LineNo) : LineSet := x ||| BitVec.twoPow 96 L.val

/-- A line taken out of a set. -/
def LineSet.remove (x : LineSet) (L : LineNo) : LineSet := x &&& ~~~(BitVec.twoPow 96 L.val)

/-- Whether a line is in a set. -/
def LineSet.has (x : LineSet) (L : LineNo) : Bool := x.getLsbD L.val

/-- The lines of a set, ascending. -/
def LineSet.lines (x : LineSet) : List LineNo := (List.finRange 96).filter (fun L => LineSet.has x L)

/-- The lowest line of a set from `c` up. -/
def LineSet.nextFrom (x : LineSet) (c : Nat) : Option LineNo :=
  (List.finRange 96).find? (fun L => decide (c ≤ L.val) && LineSet.has x L)

/-! ## Marking a status entry (R167) -/

/-- Marks an entry dirty and leaves its time of last change (R42, R134). -/
def State.markUntimed (s : State) (L : LineNo) : State :=
  s.setJournal { s.journal with dirty := LineSet.add s.journal.dirty L }

/-- Marks an entry dirty and sets its time of last change to the cabinet time (R42, R82, R103, R122). -/
def State.markTimed (s : State) (L : LineNo) : State :=
  (s.setMarks L { (s.line L).marks with lastChange := s.time }).markUntimed L

/-- Whether entering a hook state clears FOUND_AT_START (R42). -/
def Hook.clearsFoundAtStart : Hook → Bool
  | .onHook => true
  | .notEquipped => true
  | _ => false

/-- A hook state change: the state, FOUND_AT_START (R42), and the timed mark. Moving to the state the line is in is
no change. -/
def State.changeHook (s : State) (L : LineNo) (h : Hook) : State :=
  if (s.line L).sup.hook = h then s
  else
    (((s.setSup L { (s.line L).sup with hook := h }).setMarks L
      { (s.line L).marks with foundAtStart := (s.line L).marks.foundAtStart && !h.clearsFoundAtStart }).markTimed L)

/-! ## Batches and triggers (R161 to R163) -/

/-- Begins a batch, a final batch or, with nothing to take, its status write: the staged records are its taken
count, and the batch absolute timer stops (R162, R163, R170). -/
def State.beginBatch (s : State) (kind : WorkKind) : State :=
  let n := s.journal.queue.length
  s.setJournal { s.journal with
    work := some ⟨kind, n, 0, if n = 0 then .entries 0 else .readOwner⟩
    absolute := { s.journal.absolute with timer := s.journal.absolute.timer.stop } }

/-- A batch trigger (R161): begins a batch in RUNNING with no sequence in progress, else is owed; while FULL is 1 it
has no effect (log entry 11). -/
def State.trigger (s : State) : State :=
  if s.journal.full then s
  else if s.run.control = .running ∧ s.journal.work = none then s.beginBatch .normal
  else s.setJournal { s.journal with batchOwed := true }

/-- The batch absolute timer set to 0 and started, unless batch_absolute is 0 (R158, R162). -/
def startAbsolute (st : Settings) (old : LimitTimer) : LimitTimer :=
  if st.batchAbsolute = 0 then old else ⟨Timer.started, st.batchAbsolute⟩

/-- Appends a record to the staging queue, starts the batch timers and checks the triggers; an append that is at
once urgent and brings the queue to batch_count is one trigger (R158, R161, log entry 11). -/
def State.append (s : State) (line : Option LineNo) (body : RecordBody) (urgent : Bool) : State :=
  let j := s.journal
  let q := j.queue ++ [⟨line, s.time, body⟩]
  let s' := s.setJournal { j with
    queue := q
    delay := ⟨Timer.started, s.settings.batchDelay⟩
    absolute := if j.queue.isEmpty && !j.absolute.timer.running then startAbsolute s.settings j.absolute else j.absolute }
  if urgent || decide (s.settings.batchCount ≤ q.length) then s'.trigger else s'

/-- The lines of the gap set after a drop (R159). -/
def gapAfter (x : LineSet) : Option LineNo → LineSet
  | none => x
  | some L => LineSet.add x L

/-- A record dropped for want of room: counted, its line noted, the first drop dated (R159). -/
def State.drop (s : State) (line : Option LineNo) : State :=
  s.setJournal { s.journal with
    dropped := min Config.droppedMax (s.journal.dropped + 1)
    gapSet := gapAfter s.journal.gapSet line
    firstDrop := if s.journal.dropped = 0 then s.time else s.journal.firstDrop }

/-- A block hands a record to the Journal Unit: appended if the queue holds fewer than 32, else dropped
(R158, R159). -/
def State.stage (s : State) (line : Option LineNo) (body : RecordBody) (urgent : Bool := false) : State :=
  if s.journal.queue.length < Config.stagingCapacity then s.append line body urgent else s.drop line

end Sys2Proof.Machine
end

