-- ==== Sys2Proof/Machine/Pool.lean ====
section
/-! DEFINITION. The receiver pool: requests, attachments, releases, hand-over and the enabled count
(R67 to R70, R74). -/

namespace Sys2Proof.Machine

/-- The receivers in ascending number. -/
def allRx : List RxNo := [0, 1, 2, 3, 4, 5, 6, 7]

/-- The receiver attached to a line. -/
def State.receiverOf (s : State) (L : LineNo) : Option RxNo :=
  allRx.find? (fun r => decide ((s.receiver r).state = .attached) && decide ((s.receiver r).line = some L))

/-- Whether a line stands in the wait queue. -/
def State.queued (s : State) (L : LineNo) : Bool := s.pool.queue.any (fun e => decide (e.line = L))

/-- Whether a line holds a receiver or a queue place. -/
def State.served (s : State) (L : LineNo) : Bool := (s.receiverOf L).isSome || s.queued L

/-- The lowest-numbered FREE receiver (R67). -/
def State.freeReceiver (s : State) : Option RxNo := allRx.find? (fun r => decide ((s.receiver r).state = .free))

/-- The partial block discarded: block count, filter states and block power 0 (R75). -/
def Receiver.clearBlock (rx : Receiver) : Receiver :=
  { rx with blockCount := 0, filters := List.replicate 8 {}, power := 0 }

/-- A receiver attached to a line (R69); its retire mark is not changed. -/
def Receiver.attachTo (rx : Receiver) (L : LineNo) : Receiver :=
  { rx.clearBlock with state := .attached, line := some L, digit := .quiet, accepted := 0, window := Timer.started }

/-- Attaches a receiver to a line; the line's receiver field changes (R69, R82). -/
def State.attach (s : State) (r : RxNo) (L : LineNo) : State :=
  (s.setReceiver r ((s.receiver r).attachTo L)).markTimed L

/-- The answer to a request (R67). -/
inductive Answer where
  | attached (r : RxNo)
  | queued
  deriving DecidableEq, Repr

/-- The answer that a request for a line meets: the receiver it holds or gets, or a place in the queue (R67). -/
def State.answer (s : State) (L : LineNo) : Answer :=
  match s.receiverOf L with
  | some r => .attached r
  | none =>
    if s.queued L then .queued
    else
      match s.freeReceiver with
      | some r => .attached r
      | none => .queued

/-- A request for a line (R67). -/
def State.request (s : State) (L : LineNo) : State :=
  if s.served L then s
  else
    match s.freeReceiver with
    | some r => s.attach r L
    | none => (s.setQueue (s.pool.queue ++ [⟨L, 0, false⟩])).markTimed L

/-- A FREE receiver is handed at once to the head of the queue, if a line waits (R68). -/
def State.handOver (s : State) (r : RxNo) : State :=
  match s.pool.queue with
  | [] => s
  | e :: q => (s.setQueue q).attach r e.line

/-- A receiver at the end of its attachment (R70): FREE, or DISABLED if it was retiring. -/
def Receiver.detached (rx : Receiver) : Receiver :=
  { rx.clearBlock with
    state := if rx.retire then .disabled else .free
    line := none
    retire := false
    digit := .quiet
    window := rx.window.stop }

/-- What a release took away (R132). -/
inductive Taken where
  | nothing
  | receiver (r : RxNo)
  | place
  deriving DecidableEq, Repr

/-- What a release for a line will take away. -/
def State.held (s : State) (L : LineNo) : Taken :=
  match s.receiverOf L with
  | some r => .receiver r
  | none => if s.queued L then .place else .nothing

/-- Ends the attachment of a receiver to a line; a receiver that becomes FREE is handed over (R68, R70). -/
def State.detach (s : State) (r : RxNo) (L : LineNo) : State :=
  let s' := (s.setReceiver r (s.receiver r).detached).markTimed L
  if (s.receiver r).retire then s' else s'.handOver r

/-- A release for a line (R70): its receiver or its queue place is taken away; with neither it has no effect. -/
def State.release (s : State) (L : LineNo) : State :=
  match s.receiverOf L with
  | some r => s.detach r L
  | none =>
    if s.queued L then (s.setQueue (s.pool.queue.filter (fun e => !decide (e.line = L)))).markTimed L else s

/-- One receiver dealt with at a change of the enabled count to `n` (R74). -/
def State.recount (n : Nat) (s : State) (r : RxNo) : State :=
  let rx := s.receiver r
  if n ≤ r.val then
    match rx.state with
    | .free => s.setReceiver r { rx with state := .disabled }
    | .attached => s.setReceiver r { rx with retire := true }
    | .disabled => s
  else
    match rx.state with
    | .disabled => (s.setReceiver r { rx with state := .free }).handOver r
    | .attached => s.setReceiver r { rx with retire := false }
    | .free => s

/-- A change of the enabled count: the receivers are dealt with in ascending number (R74). -/
def State.changeEnabled (s : State) (n : Nat) : State :=
  allRx.foldl (State.recount n) { s with pool := { s.pool with enabledCount := n } }

end Sys2Proof.Machine
end

