-- ==== Sys2Proof/Machine/Collector.lean ====
section
/-! DEFINITION. The Digit Collector: opening, appending, completing, timeouts and abandonment (R84 to R101). -/

namespace Sys2Proof.Machine

/-- A digit handed to the collector: a pulse digit with its measurements (R51), or a tone symbol with its receiver
(R80). -/
structure Digit where
  symbol : Symbol
  source : Source
  p1 : Nat := 0
  share : Nat := 0
  distorted : Bool := false
  speed : Bool := false
  receiver : Option RxNo := none
  deriving DecidableEq, Repr

/-- Opens a collection (R84): COLLECTING, an empty string, the first-digit timer from 0; the entry is marked. -/
def State.openCollection (s : State) (L : LineNo) (resumed : Bool) : State :=
  (s.setColl L { (s.line L).coll with
    state := .collecting
    string := []
    firstDigit := Timer.started
    interdigit := (s.line L).coll.interdigit.stop
    resumed := resumed }).markTimed L

/-- The count a flash or a teardown hands back: the symbols of a COLLECTING string, 0 otherwise (R23, R26). -/
def Collection.uncompleted (c : Collection) : Nat := if c.state = .collecting then c.string.length else 0

/-- The collection after an abandonment (R101). -/
def Collection.abandoned (c : Collection) : Collection :=
  { state := .idle, string := [], firstDigit := c.firstDigit.stop, interdigit := c.interdigit.stop, resumed := false }

/-- Abandons a collection (R101); the entry is marked if the state or the digit count changes. -/
def State.abandon (s : State) (L : LineNo) : State :=
  let c := (s.line L).coll
  let s' := s.setColl L c.abandoned
  if c.state = .idle ∧ c.string = [] then s' else s'.markTimed L

/-! ## The completion checks -/

/-- The plan length entry of a string: `none` when it has none (R93). -/
def Plan.lengthEntry (p : Plan) (str : List DigitEntry) : Option (Option Nat) :=
  match str with
  | d1 :: d2 :: _ =>
    if d1.symbol.val ≤ 9 ∧ d2.symbol.val ≤ 9 then some (p.lengths.getD (10 * d1.symbol.val + d2.symbol.val) none) else none
  | _ => none

/-- Whether an early-string entry equals a list of symbols (R92). -/
def earlyEquals (syms : List Symbol) : Option EarlyEntry → Bool
  | none => false
  | some e => decide (e.symbols = syms)

/-- The lowest-numbered early-string entry that equals the string (R92). -/
def Plan.earlyIndex (p : Plan) (str : List DigitEntry) : Option Nat :=
  p.early.findIdx? (earlyEquals (str.map DigitEntry.symbol))

/-- Test TERMINATOR of R92, on the string with its last symbol appended. -/
def Plan.terminates (p : Plan) (str : List DigitEntry) : Bool :=
  match str with
  | [] => false
  | [_] => false
  | first :: rest =>
    decide (rest.getLast?.map DigitEntry.symbol = some 11) &&
    (decide (first.symbol = 10) || decide (first.symbol = 11) || decide (p.lengthEntry str = some none))

/-- Test LENGTH of R92. -/
def Plan.lengthReached (p : Plan) (str : List DigitEntry) : Bool :=
  match p.lengthEntry str with
  | some (some n) => decide (n ≤ str.length)
  | _ => false

/-- The first of the four tests that holds, with the early index and its class (R92). -/
def Plan.check (p : Plan) (str : List DigitEntry) : Option (NumberReason × Option Nat × Bool) :=
  match p.earlyIndex str with
  | some i => some (.early, some i, ((p.early.getD i none).map EarlyEntry.urgent).getD false)
  | none =>
    if p.terminates str then some (.terminator, none, false)
    else if p.lengthReached str then some (.length, none, false)
    else if Config.stringMax ≤ str.length then some (.full, none, false)
    else none

/-! ## Completion, symbols and timeouts -/

/-- The collection DONE with both timers stopped (R94, R99); the string is kept. -/
def Collection.finished (c : Collection) : Collection :=
  { c with state := .done, firstDigit := c.firstDigit.stop, interdigit := c.interdigit.stop }

/-- A completion (R94): NUMBER staged, DONE, timers stopped, and the line released by the pool. -/
def State.complete (s : State) (L : LineNo) (reason : NumberReason) (early : Option Nat) (urgent : Bool) : State :=
  let c := (s.line L).coll
  let s1 := s.stage (some L) (.number c.string reason early c.resumed) urgent
  ((s1.setColl L (s1.line L).coll.finished).markTimed L).release L

/-- The contents of FIRST_DIGIT and LATE_DIGIT for a digit (R91, R100). -/
def Digit.report (d : Digit) (resumed : Bool) (receiver : Option RxNo) : DigitReport :=
  ⟨d.symbol, d.source, d.distorted, d.speed, resumed, d.p1, d.share, receiver⟩

/-- Appends a symbol to a COLLECTING string and makes the completion checks (R90 to R92). -/
def State.appendSymbol (s : State) (L : LineNo) (d : Digit) : State :=
  let c := (s.line L).coll
  let s1 := if c.string = [] then s.stage (some L) (.firstDigit (d.report c.resumed none)) else s
  let str := c.string ++ [⟨d.symbol, d.source, d.distorted, d.speed⟩]
  let s2 := (s1.setColl L { (s1.line L).coll with
    string := str
    firstDigit := if c.string = [] then c.firstDigit.stop else c.firstDigit
    interdigit := Timer.started }).markTimed L
  match s2.plan.check str with
  | some (reason, early, urgent) => s2.complete L reason early urgent
  | none => s2

/-- A symbol reaches the collector in the collection state it finds (R89, R100). DESIGN CHOICE (log entry 33): R100 lists no
resumed flag among the contents of LATE_DIGIT, and the resumed bit of its digit flags byte is 0. -/
def State.takeSymbol (s : State) (L : LineNo) (d : Digit) : State :=
  match (s.line L).coll.state with
  | .collecting => s.appendSymbol L d
  | .done => s.stage (some L) (.lateDigit (d.report false d.receiver))
  | .idle => s

/-- The first-digit timeout (R99), up to its park request: NO_DIGITS, DONE, the line released. -/
def State.noDigits (s : State) (L : LineNo) : State :=
  let s1 := s.stage (some L) (.noDigits (s.line L).coll.resumed)
  ((s1.setColl L (s1.line L).coll.finished).markTimed L).release L

/-- What the collector made of a sample. -/
structure CollResult where
  firstDigitTimeout : Bool := false
  interdigitTimeout : Bool := false
  park : Bool := false
  deriving DecidableEq, Repr

/-- The collector's timers advanced at a sample, unless this sample opened the collection (R84, R88). -/
def Collection.advance (c : Collection) (e : Nat) (opened : Bool) : Collection :=
  if c.state = .collecting ∧ opened = false then
    { c with firstDigit := c.firstDigit.advance e, interdigit := c.interdigit.advance e }
  else c

/-- The timers compared with their limits at a sample (R88, R98, R99): the first-digit timer unless it was started
in this sample, the interdigit timer unless a digit of this sample restarted it. -/
def State.collTimeouts (s : State) (L : LineNo) (opened hadDigit : Bool) : State × CollResult :=
  let c := (s.line L).coll
  let p := (s.line L).profile
  if c.state = .collecting ∧ opened = false ∧ c.firstDigit.reached (1000 * p.firstDigitTimeout) = true then
    (s.noDigits L, { firstDigitTimeout := true, park := !c.resumed })
  else if c.state = .collecting ∧ hadDigit = false ∧ c.interdigit.reached (1000 * p.interdigitTimeout) = true then
    (s.complete L .timeout none false, { interdigitTimeout := true })
  else (s, {})

/-- The Digit Collector takes a sample (R88): timers, then the digit of the sample, then the limits. -/
def State.collectorStep (s : State) (L : LineNo) (e : Nat) (opened : Bool) (digit : Option Digit) :
    State × CollResult :=
  let s1 := s.setColl L ((s.line L).coll.advance e opened)
  match digit with
  | some d => (s1.takeSymbol L d).collTimeouts L opened true
  | none => s1.collTimeouts L opened false

end Sys2Proof.Machine
end

