-- ==== Sys2Proof/Machine/Decoder.lean ====
section
/-! DEFINITION. The Pulse Decoder: trains, the first period, the digit-end threshold and the end of a train
(R44 to R58). -/

namespace Sys2Proof.Machine

/-- The outcome of the Supervision Engine's step that the decoder takes (R44). -/
inductive Outcome where
  | none | breakBegun | pulse (t : Nat) | hit (t : Nat) | cut (t : Nat) | flash
  deriving DecidableEq, Repr

/-- The record with its empty values, as after the end of a train (R49); the threshold keeps its last value (R43). -/
def PulseDecoder.emptied (d : PulseDecoder) : PulseDecoder :=
  { trainOpen := false, count := 0, overrun := false, make := 0, makeState := .stopped, firstBreak := 0, p1 := 0,
    share := 0, threshold := d.threshold }

/-- The digit-end threshold set from a first period (R48). -/
def thresholdOf (p1 : Nat) (p : Profile) : Nat := clamp p.gMin p.gMax (p1 + p1 / 2)

/-- A PULSE(t) outcome: opens a train (R46) or counts in it, measuring P1 at the second pulse (R47, R48). -/
def PulseDecoder.pulse (d : PulseDecoder) (t : Nat) (p : Profile) : PulseDecoder :=
  if d.trainOpen then
    let n := min 255 (d.count + 1)
    let d' := { d with count := n, overrun := d.overrun || decide (n = 11), make := 0, makeState := .running }
    if n = 2 then
      let p1 := d.firstBreak + d.make
      { d' with p1 := p1, share := 100 * d.firstBreak / p1, threshold := thresholdOf p1 p }
    else d'
  else
    { trainOpen := true, count := 1, overrun := false, make := 0, makeState := .running, firstBreak := t, p1 := 0,
      share := 0, threshold := p.gMax }

/-- The DISTORTED flag of a digit: the share outside ratio_min..ratio_max, when a period was measured (R50). -/
def PulseDecoder.distorted (d : PulseDecoder) (p : Profile) : Bool :=
  decide (2 ≤ d.count) && (decide (d.share < p.ratioMin) || decide (p.ratioMax < d.share))

/-- The SPEED flag of a digit: P1 outside 70..150, when a period was measured (R50). -/
def PulseDecoder.offSpeed (d : PulseDecoder) : Bool :=
  decide (2 ≤ d.count) && (decide (d.p1 < Config.speedLow) || decide (Config.speedHigh < d.p1))

/-- The digit that a train yields at its end (R49 to R51). -/
def PulseDecoder.digit (d : PulseDecoder) (p : Profile) : Digit where
  symbol := ⟨d.count % 10, by omega⟩
  source := .pulse
  p1 := d.p1
  share := d.share
  distorted := d.distorted p
  speed := d.offSpeed

/-- The contents of a DIAL_ERROR of the decoder (R56). -/
def PulseDecoder.report (d : PulseDecoder) (cutting : Nat) : TrainReport :=
  ⟨d.count, d.overrun, d.p1, d.share, cutting⟩

/-- What the decoder made of a sample: the digit it hands on, and whether a train ended by the threshold. -/
structure DecResult where
  digit : Option Digit := none
  ended : Bool := false
  deriving DecidableEq, Repr

/-- Compares a RUNNING make timer with the threshold and ends the train that has reached it (R45, R49). -/
def State.endTrain (s : State) (L : LineNo) : State × DecResult :=
  let d := (s.line L).dec
  if d.trainOpen = true ∧ d.makeState = .running ∧ d.threshold ≤ d.make then
    if d.overrun then
      ((s.stage (some L) (.pulseOverrun (d.report 0))).setDec L d.emptied, { ended := true })
    else (s.setDec L d.emptied, { digit := some (d.digit (s.line L).profile), ended := true })
  else (s, {})

/-- The make timer advanced by an elapsed value, saturating (R11, R45). -/
def PulseDecoder.advance (d : PulseDecoder) (e : Nat) : PulseDecoder :=
  { d with make := min Config.timerMax (d.make + e) }

/-- The make timer HELD, when it still runs (R52). -/
def PulseDecoder.hold (d : PulseDecoder) : PulseDecoder :=
  if d.makeState = .running then { d with makeState := .held } else d

/-- The hit's length added to the HELD make timer, which runs again (R53). -/
def PulseDecoder.hit (d : PulseDecoder) (t : Nat) : PulseDecoder :=
  { d with make := min Config.timerMax (d.make + t), makeState := .running }

/-- The Pulse Decoder takes a sample with the outcome of the Supervision Engine's step (R44, R45). -/
def State.decoderStep (s : State) (L : LineNo) (outcome : Outcome) (e : Nat) : State × DecResult :=
  let d := (s.line L).dec
  match outcome with
  | .pulse t => (s.setDec L (d.pulse t (s.line L).profile), {})
  | .breakBegun =>
    if d.trainOpen then
      let r := (s.setDec L (d.advance e)).endTrain L
      (r.1.setDec L (r.1.line L).dec.hold, r.2)
    else (s, {})
  | .hit t => if d.trainOpen then (s.setDec L (d.hit t)).endTrain L else (s, {})
  | .cut t =>
    if d.trainOpen then
      ((s.stage (some L) (.trainCut (d.report t))).setDec L d.emptied, {})
    else (s, {})
  | .flash => (if d.trainOpen then s.setDec L d.emptied else s, {})
  | .none =>
    if d.trainOpen = true ∧ d.makeState = .running ∧ (s.line L).sup.hook = .active then
      (s.setDec L (d.advance e)).endTrain L
    else (s, {})

/-- Drops an open train without a record (R57, R58); with none open nothing changes. -/
def State.dropTrain (s : State) (L : LineNo) : State :=
  if (s.line L).dec.trainOpen then s.setDec L (s.line L).dec.emptied else s

/-- A reloaded profile acts on the decoder of a line that stays enabled (R59). -/
def PulseDecoder.reload (d : PulseDecoder) (new : Profile) : PulseDecoder :=
  if d.trainOpen then
    if new.dialMode = .tone then d.emptied
    else { d with threshold := if d.p1 = 0 then new.gMax else thresholdOf d.p1 new }
  else d

end Sys2Proof.Machine
end

