-- ==== Sys2Proof/Machine/Supervise.lean ====
section
/-! DEFINITION. The Line Conditioner and the Supervision Engine: classification and filter (R13 to R16), the hook
state machine (R18 to R28), teardown, park, guard, block and profile changes (R23, R27, R29 to R35), the baseline
and the thresholds (R36 to R39) and the loop-resistance estimate (R40). -/

namespace Sys2Proof.Machine

/-! ## The Line Conditioner -/

/-- The raw loop state of a current (R13): the magnitude against T_on and T_off, unchanged in the band. -/
def classify (tOn tOff : Nat) (prev : LoopState) (i : Int) : LoopState :=
  if tOn ≤ i.natAbs then .loop else if i.natAbs ≤ tOff then .noLoop else prev

/-- One step of the agreement filter with a raw loop state (R14). -/
def Conditioner.filter (c : Conditioner) (r : LoopState) : Conditioner :=
  let qa := if r = c.pa then r else c.qa
  let qb := if qa = c.pb then qa else c.qb
  { c with pa := r, qa := qa, pb := qa, qb := qb }

/-- All four latches loaded with a raw loop state, the reseed flag consumed (R15). -/
def Conditioner.reseeded (c : Conditioner) (r : LoopState) : Conditioner :=
  { c with pa := r, qa := r, pb := r, qb := r, reseed := false }

/-- What the conditioner hands on with a sample (R10, R16). -/
structure Conditioned where
  raw : LoopState
  filtered : LoopState
  vtPrev : Int
  vrPrev : Int
  deriving DecidableEq, Repr

/-- The raw loop state of a line's next sample (R13). -/
def Line.raw (ln : Line) (i : Int) : LoopState := classify ln.sup.tOn ln.sup.tOff ln.cond.pa i

/-- The line's latches after a sample: reseeded if a reseed is due, else stepped (R14, R15). -/
def Line.latched (ln : Line) (i : Int) : Conditioner :=
  if ln.cond.reseed then ln.cond.reseeded (ln.raw i) else ln.cond.filter (ln.raw i)

/-- The filtered loop state of a line's next sample. -/
def Line.filtered (ln : Line) (i : Int) : LoopState := (ln.latched i).qb

/-- What the conditioner hands on: at a reseed the previous voltages are the sample's own (R16). -/
def Line.conditioned (ln : Line) (smp : Sample) : Conditioned where
  raw := ln.raw smp.i
  filtered := ln.filtered smp.i
  vtPrev := if ln.cond.reseed then smp.vt else ln.cond.vtPrev
  vrPrev := if ln.cond.reseed then smp.vr else ln.cond.vrPrev

/-- The Line Conditioner takes a sample (R13 to R16). -/
def State.conditionStep (s : State) (L : LineNo) (smp : Sample) : State :=
  s.setCond L { (s.line L).latched smp.i with vtPrev := smp.vt, vrPrev := smp.vr }

/-- Sets the reseed flag of a line (R15). -/
def State.askReseed (s : State) (L : LineNo) : State := s.setCond L { (s.line L).cond with reseed := true }

/-! ## Baseline, thresholds and the estimate -/

/-- T_on of a baseline under a profile (R38). -/
def tOnOf (p : Profile) (b : Nat) : Nat := min Config.tOnMax (max p.f (b / 16 + p.m))

/-- T_off of a T_on under a profile (R38). -/
def tOffOf (p : Profile) (tOn : Nat) : Nat := max 1 (tOn - p.h)

/-- A supervision record with a baseline and the thresholds it gives (R38). -/
def Supervision.withBaseline (x : Supervision) (p : Profile) (b : Nat) (seeded : Bool) : Supervision :=
  { x with b := b, seeded := seeded, tOn := tOnOf p b, tOff := tOffOf p (tOnOf p b) }

/-- Sets a line's baseline and thresholds; the entry is marked if floor(B/16) or T_on changes (R38, R42). -/
def State.setBaseline (s : State) (L : LineNo) (b : Nat) (seeded : Bool) : State :=
  let x := (s.line L).sup
  let y := x.withBaseline (s.line L).profile b seeded
  let s' := s.setSup L y
  if x.b / 16 = y.b / 16 ∧ x.tOn = y.tOn then s' else s'.markUntimed L

/-- Clears a line's baseline (R39). -/
def State.clearBaseline (s : State) (L : LineNo) : State := s.setBaseline L 0 false

/-- The baseline after a qualifying sample (R37): seeded from it, or moved towards it by a floor shift. -/
def baselineAfter (x : Supervision) (k : Nat) (i : Int) : Nat :=
  if x.seeded then
    (clampInt 0 Config.baselineMax ((x.b : Int) + (16 * (i.natAbs : Int) - x.b) / 2 ^ k)).toNat
  else min Config.baselineMax (16 * i.natAbs)

/-- Whether a sample qualifies for the baseline update (R36); the fault conditions are those the Fault Monitor left at
the line's previous taken sample (R18, R115). -/
def Line.qualifies (ln : Line) (c : Conditioned) : Bool :=
  decide (ln.sup.hook = .onHook) && decide (c.filtered = .noLoop) && decide (c.raw = .noLoop) &&
  decide (ln.fault.foreignDc.state = .clear) && decide (ln.fault.acInduced.state = .clear)

/-- The baseline update of a sample, if it qualifies; the Bool says that it was made (R36, R37). -/
def State.baselineStep (s : State) (L : LineNo) (c : Conditioned) (i : Int) : State × Bool :=
  if (s.line L).qualifies c then
    (s.setBaseline L (baselineAfter (s.line L).sup (s.line L).profile.k i) true, true)
  else (s, false)

/-- The loop-resistance estimate of a sample in ohms; none at zero current (R40). -/
def rEst (smp : Sample) : Option Nat :=
  if smp.i = 0 then none else some (5000 * (smp.vt - smp.vr).natAbs / smp.i.natAbs)

/-! ## Teardown, park and guard -/

/-- The supervision timer stopped. -/
def State.stopTimer (s : State) (L : LineNo) : State :=
  s.setSup L { (s.line L).sup with timer := (s.line L).sup.timer.stop }

/-- The supervision timer set to 0 and started. -/
def State.startTimer (s : State) (L : LineNo) : State := s.setSup L { (s.line L).sup with timer := Timer.started }

/-- The start mark set to NO. -/
def State.clearStartMark (s : State) (L : LineNo) : State := s.setSup L { (s.line L).sup with startMark := false }

/-- Line teardown (R23): the train dropped, the receiver or queue place released, the collection abandoned. The count
of uncompleted digits is `(s.line L).coll.uncompleted` before it. -/
def State.teardown (s : State) (L : LineNo) : State := ((s.dropTrain L).release L).abandon L

/-- A release (R24, R28): teardown, ON_HOOK, the timer stopped, and ON_HOOK staged. -/
def State.releaseLine (s : State) (L : LineNo) (fromParked : Bool) : State :=
  let n := (s.line L).coll.uncompleted
  let t := (s.line L).sup.breakStart
  (((s.teardown L).stopTimer L).changeHook L .onHook).stage (some L) (.onHook .release fromParked n t)

/-- A park request (R27): taken in ACTIVE, ignored in any other hook state; an open train is dropped (R58). -/
def State.park (s : State) (L : LineNo) : State :=
  if (s.line L).sup.hook = .active then
    (((s.dropTrain L).changeHook L .parked).release L).stage (some L) .park
  else s

/-- Whether a hook state is one of the four call states (spec/02, Hook transitions at a glance). -/
def Hook.inCall : Hook → Bool
  | .active => true
  | .openInterval => true
  | .parked => true
  | .parkedOpen => true
  | _ => false

/-- Whether a hook state is PARKED or PARKED_OPEN. -/
def Hook.isParked : Hook → Bool
  | .parked => true
  | .parkedOpen => true
  | _ => false

/-- Whether a GUARD entry request has an effect: in no hook state of the last rows of R32, nor TESTING. -/
def Hook.takesGuard : Hook → Bool
  | .guard => false
  | .notEquipped => false
  | .testing => false
  | _ => true

/-- A GUARD entry request (R32). -/
def State.guardEntry (s : State) (L : LineNo) : State :=
  let h := (s.line L).sup.hook
  if h.takesGuard then
    let n := (s.line L).coll.uncompleted
    let s1 := ((s.teardown L).stopTimer L).clearStartMark L
    let s2 := s1.setSup L { (s1.line L).sup with guardReturn := if h = .blocked then .blocked else .onHook }
    let s3 := s2.changeHook L .guard
    if h.inCall then s3.stage (some L) (.onHook .guard h.isParked n s.time) else s3
  else s

/-- The hook state of a return state. -/
def ReturnState.hook : ReturnState → Hook
  | .onHook => .onHook
  | .blocked => .blocked

/-- A GUARD exit request (R33): taken in GUARD. -/
def State.guardExit (s : State) (L : LineNo) : State :=
  if (s.line L).sup.hook = .guard then
    let s1 := ((s.changeHook L (s.line L).sup.guardReturn.hook).askReseed L).clearBaseline L
    s1.setSup L { (s1.line L).sup with guardReturn := .onHook }
  else s

/-! ## Orders and profile changes at the Supervision Engine -/

/-- The answer of an order that a hook state may refuse. -/
inductive HookAnswer where
  | ok | guarded | notEquipped | lineBusy
  deriving DecidableEq, Repr

/-- The answer of BLOCK by hook state (R29). No BLOCK reaches a TESTING line (R31); it is answered LINE_BUSY there
(log entry 15). -/
def Hook.blockAnswer : Hook → HookAnswer
  | .onHook => .ok
  | .parked => .ok
  | .guard => .guarded
  | .notEquipped => .notEquipped
  | _ => .lineBusy

/-- The BLOCK event (R29). -/
def State.blockLine (s : State) (L : LineNo) : State :=
  match (s.line L).sup.hook with
  | .onHook => (s.clearStartMark L).changeHook L .blocked
  | .parked => (s.teardown L).changeHook L .blocked
  | _ => s

/-- The UNBLOCK event (R30). -/
def State.unblockLine (s : State) (L : LineNo) : State :=
  match (s.line L).sup.hook with
  | .blocked => ((s.changeHook L .onHook).askReseed L).clearBaseline L
  | .guard => s.setSup L { (s.line L).sup with guardReturn := .onHook }
  | _ => s

/-- The answer of a LINE_TEST admission by hook state (R142). -/
def Hook.testAnswer : Hook → HookAnswer
  | .onHook => .ok
  | .blocked => .ok
  | .guard => .guarded
  | .notEquipped => .notEquipped
  | _ => .lineBusy

/-- The line is connected to the test bus (R31, R143). -/
def State.connectLine (s : State) (L : LineNo) : State :=
  let x := (s.line L).sup
  (s.setSup L { x with testReturn := if x.hook = .blocked then .blocked else .onHook, startMark := false }).changeHook
    L .testing

/-- The line leaves TESTING for its test return state with its reseed flag set (R31). -/
def State.returnLine (s : State) (L : LineNo) : State :=
  (s.changeHook L (s.line L).sup.testReturn.hook).askReseed L

/-- A fault record set CLEAR without records (R104); the raised-at times stay. -/
def FaultRecord.cleared (f : FaultRecord) : FaultRecord :=
  { powerCross := { raisedAt := f.powerCross.raisedAt }
    foreignDc := { raisedAt := f.foreignDc.raisedAt }
    acInduced := { raisedAt := f.acInduced.raisedAt }
    leakage := { raisedAt := f.leakage.raisedAt }
    loopShort := { raisedAt := f.loopShort.raisedAt } }

/-- Whether all five conditions are CLEAR. -/
def FaultRecord.allClear (f : FaultRecord) : Bool :=
  decide (f.powerCross.state = .clear) && decide (f.foreignDc.state = .clear) && decide (f.acInduced.state = .clear) &&
  decide (f.leakage.state = .clear) && decide (f.loopShort.state = .clear)

/-- Sets a line's conditions CLEAR at a disable; a change of a state marks the entry (R104, R122). -/
def State.clearFaults (s : State) (L : LineNo) : State :=
  let f := (s.line L).fault
  let s' := s.setFault L f.cleared
  if f.allClear then s' else s'.markTimed L

/-- A profile disables a line (R34). DESIGN CHOICE (log entry 32): R34 and R136 do not say that the thresholds follow the
new copy here, as R35 and R38 say of a line that stays or becomes enabled; T_on and T_off stay as they are. -/
def State.disableLine (s : State) (L : LineNo) : State :=
  let h := (s.line L).sup.hook
  let n := (s.line L).coll.uncompleted
  let s1 := ((s.teardown L).clearFaults L).stopTimer L
  let s2 := s1.setSup L { (s1.line L).sup with guardReturn := .onHook, testReturn := .onHook, startMark := false }
  let s3 := s2.changeHook L .notEquipped
  if h.inCall then s3.stage (some L) (.onHook .disabled h.isParked n s.time) else s3

/-- A profile enables a NOT_EQUIPPED line (R35); `s` already holds the new copy. -/
def State.enableLine (s : State) (L : LineNo) : State :=
  (((s.changeHook L .onHook).askReseed L).clearBaseline L).clearStartMark L

/-! ## Taking a sample -/

/-- What the Supervision Engine's step made of a sample: the outcome it hands on, whether it opened a collection, and
the timer events of the table's rows. -/
structure SupResult where
  outcome : Outcome := .none
  opened : Bool := false
  seizeConfirm : Bool := false
  release : Bool := false
  parkedRelease : Bool := false
  deriving DecidableEq, Repr

/-- The receiver request of a seizure or a flash, if dial_mode is TONE or BOTH (R21, R26). -/
def State.requestIfTone (s : State) (L : LineNo) : State :=
  if (s.line L).profile.dialMode.hasTone then s.request L else s

/-- A confirmed seizure (R21): ACTIVE, OFF_HOOK staged, FOUND_AT_START, the start mark, the collection, the request. -/
def State.confirmSeizure (s : State) (L : LineNo) (smp : Sample) : State :=
  let mark := (s.line L).sup.startMark
  let s1 := (s.stopTimer L).changeHook L .active
  let s2 := s1.stage (some L) (.offHook smp.i.natAbs mark (rEst smp))
  let s3 := if mark then (s2.setMarks L { (s2.line L).marks with foundAtStart := true }).markUntimed L else s2
  ((s3.clearStartMark L).openCollection L false).requestIfTone L

/-- The effects of a flash (R26): the train dropped, a new collection, FLASH, the request. -/
def State.flashLine (s : State) (L : LineNo) (t : Nat) : State :=
  let n := (s.line L).coll.uncompleted
  ((((s.dropTrain L).openCollection L false).stage (some L) (.flash t n))).requestIfTone L

/-- The class of a break of length `t` under a profile (R25). -/
def breakClass (p : Profile) (t : Nat) : Outcome :=
  if t < p.breakMin then .hit t
  else if t ≤ p.pulseBreakMax then (if p.dialMode.hasPulse then .pulse t else .hit t)
  else if t < p.flashMin then .cut t
  else if p.flashEnable then .flash
  else .cut t

/-- A break begins (R22, R28): the hook state, the timer and the break start. -/
def State.beginBreak (s : State) (L : LineNo) (h : Hook) : State :=
  let s1 := s.startTimer L
  (s1.setSup L { (s1.line L).sup with breakStart := s.time }).changeHook L h

/-- The loop returns in OPEN_INTERVAL before the release limit: the break is classified (R25). -/
def State.endBreak (s : State) (L : LineNo) : State × SupResult :=
  let t := (s.line L).sup.timer.value
  let s1 := (s.stopTimer L).changeHook L .active
  match breakClass (s.line L).profile t with
  | .flash => (s1.flashLine L t, { outcome := .flash, opened := true })
  | o => (s1, { outcome := o })

/-- The step of the hook state at a sample, with the supervision timer already advanced (R18 to R28). -/
def State.hookStep (s : State) (L : LineNo) (smp : Sample) (filtered : LoopState) : State × SupResult :=
  let ln := s.line L
  match ln.sup.hook, filtered with
  | .onHook, .loop => ((s.startTimer L).changeHook L .seizePending, {})
  | .onHook, .noLoop => (s.clearStartMark L, {})
  | .seizePending, .noLoop => (((s.stopTimer L).clearStartMark L).changeHook L .onHook, {})
  | .seizePending, .loop =>
    if ln.sup.timer.reached ln.profile.seizeConfirm then
      (s.confirmSeizure L smp, { opened := true, seizeConfirm := true })
    else (s, {})
  | .active, .noLoop => (s.beginBreak L .openInterval, { outcome := .breakBegun })
  | .active, .loop => (s, {})
  | .openInterval, f =>
    if ln.sup.timer.reached (ln.profile.flashMax + 1) then (s.releaseLine L false, { release := true })
    else if f = .loop then s.endBreak L
    else (s, {})
  | .parked, .noLoop => (s.beginBreak L .parkedOpen, {})
  | .parked, .loop => (s, {})
  | .parkedOpen, f =>
    if ln.sup.timer.reached (ln.profile.flashMax + 1) then (s.releaseLine L true, { parkedRelease := true })
    else if f = .loop then ((s.stopTimer L).changeHook L .parked, {})
    else (s, {})
  | _, _ => (s, {})

/-- The supervision timer advanced at a sample, if it runs (R11, R18). -/
def State.advanceTimer (s : State) (L : LineNo) (e : Nat) : State :=
  s.setSup L { (s.line L).sup with timer := (s.line L).sup.timer.advance e }

end Sys2Proof.Machine
end

