-- ==== Sys2Proof/Machine/Faults.lean ====
section
/-! DEFINITION. The Fault Monitor: the AC average, the five conditions, their records, and faults found by tests
(R105 to R122). -/

namespace Sys2Proof.Machine

/-- The record of one condition. -/
def FaultRecord.get (f : FaultRecord) : Condition → CondRecord
  | .powerCross => f.powerCross
  | .foreignDc => f.foreignDc
  | .acInduced => f.acInduced
  | .leakage => f.leakage
  | .loopShort => f.loopShort

/-- The fault record with the record of one condition replaced. -/
def FaultRecord.set (f : FaultRecord) (c : Condition) (r : CondRecord) : FaultRecord :=
  match c with
  | .powerCross => { f with powerCross := r }
  | .foreignDc => { f with foreignDc := r }
  | .acInduced => { f with acInduced := r }
  | .leakage => { f with leakage := r }
  | .loopShort => { f with loopShort := r }

/-- FROM_TEST: FOREIGN_DC is RAISED or CLEARING with source TEST (R122). -/
def FaultRecord.fromTest (f : FaultRecord) : Bool :=
  decide (f.foreignDc.source = .test) &&
  (decide (f.foreignDc.state = .raised) || decide (f.foreignDc.state = .clearing))

/-- The change of both voltages from the previous sample (R111). -/
def voltageChange (smp : Sample) (c : Conditioned) : Nat :=
  (smp.vt - c.vtPrev).natAbs + (smp.vr - c.vrPrev).natAbs

/-- The AC average after a sample with voltage change `d` (R111). -/
def a16After (a16 d : Nat) : Nat :=
  (clampInt 0 Config.acAverageMax ((a16 : Int) + (16 * (d : Int) - a16) / 16)).toNat

/-- The deviation of a sample from the nominal voltages (R110). -/
def deviation (p : Profile) (smp : Sample) : Nat :=
  max (smp.vt - p.vtNom).natAbs (smp.vr - p.vrNom).natAbs

/-- A sample is high when a conductor is beyond 300 steps (R107). -/
def sampleHigh (smp : Sample) : Bool :=
  decide (Config.powerCrossLimit < smp.vt.natAbs) || decide (Config.powerCrossLimit < smp.vr.natAbs)

/-- LOOP_SHORT is present: PARKED, a current, and the estimate below short_limit (R114). -/
def shortPresent (p : Profile) (hook : Hook) (smp : Sample) : Bool :=
  match rEst smp with
  | some r => decide (hook = .parked) && decide (r < p.shortLimit)
  | none => false

/-- What a condition's step calls for. -/
inductive CondEffect where
  | none | raise | clear
  deriving DecidableEq, Repr

/-- The common state machine with the timer already advanced (R106). -/
def CondRecord.stepWith (r : CondRecord) (present : Bool) (confirm clear : Nat) (now : Word) : CondRecord × CondEffect :=
  match r.state, present with
  | .clear, true => ({ r with state := .suspect, timer := Timer.started }, .none)
  | .clear, false => (r, .none)
  | .suspect, true =>
    if r.timer.reached confirm then
      ({ state := .raised, timer := r.timer.stop, source := .sense, raisedAt := now }, .raise)
    else (r, .none)
  | .suspect, false => ({ r with state := .clear, timer := r.timer.stop }, .none)
  | .raised, true => (r, .none)
  | .raised, false => ({ r with state := .clearing, timer := Timer.started }, .none)
  | .clearing, true => ({ r with state := .raised, timer := r.timer.stop }, .none)
  | .clearing, false =>
    if r.timer.reached clear then ({ r with state := .clear, timer := r.timer.stop, source := .sense }, .clear)
    else (r, .none)

/-- A condition's record with its running timer advanced (R105). -/
def CondRecord.advance (r : CondRecord) (e : Nat) : CondRecord := { r with timer := r.timer.advance e }

/-- Stores a stepped condition record; a change of its state marks the entry (R122). -/
def State.storeCondition (s : State) (L : LineNo) (c : Condition) (r : CondRecord) : State :=
  let f := (s.line L).fault
  let s' := s.setFault L (f.set c r)
  if (f.get c).state = r.state then s' else s'.markTimed L

/-- The record an effect calls for: FAULT_RAISED with the measure of the sample (R120), or FAULT_CLEARED with the source
and the raised-at time held before the clear (R121). -/
def State.reportCondition (s : State) (L : LineNo) (c : Condition) (old : CondRecord) (effect : CondEffect)
    (hook : Hook) (value : Nat) (urgent : Bool) : State :=
  match effect with
  | .none => s
  | .raise => s.stage (some L) (.faultRaised c .sense .none hook value) urgent
  | .clear => s.stage (some L) (.faultCleared c old.source old.raisedAt)

/-- One of the four conditions of the common state machine, evaluated at a sample (R105, R106). -/
def State.evalCondition (s : State) (L : LineNo) (c : Condition) (present : Bool) (e : Nat) (hook : Hook)
    (value : Nat) : State × CondEffect :=
  let old := ((s.line L).fault.get c)
  let p := (s.line L).profile
  let r := (old.advance e).stepWith present (100 * p.dcConfirm) (100 * p.clearTime) s.time
  ((s.storeCondition L c r.1).reportCondition L c old r.2 hook value false, r.2)

/-- What the GUARD request of the POWER_CROSS step is (R105 step 3). -/
inductive GuardRequest where
  | none | entry | exit
  deriving DecidableEq, Repr

/-- The run count after a sample: one more up to 3 for a high one, 0 for a low one (R107). -/
def runAfter (run : Nat) (high : Bool) : Nat := if high then min Config.powerCrossRun (run + 1) else 0

/-- The step of POWER_CROSS with the timer already advanced; `run` is the run count after the sample (R107). -/
def CondRecord.stepCross (r : CondRecord) (high : Bool) (run : Nat) (now : Word) :
    CondRecord × CondEffect × GuardRequest :=
  match r.state, high with
  | .clear, true => ({ r with state := .suspect }, .none, .none)
  | .clear, false => (r, .none, .none)
  | .suspect, true =>
    if run = Config.powerCrossRun then
      ({ r with state := .raised, source := .sense, raisedAt := now }, .raise, .entry)
    else (r, .none, .none)
  | .suspect, false => ({ r with state := .clear }, .none, .none)
  | .raised, true => (r, .none, .none)
  | .raised, false => ({ r with state := .clearing, timer := Timer.started }, .none, .none)
  | .clearing, true => ({ r with state := .raised, timer := r.timer.stop }, .none, .entry)
  | .clearing, false =>
    if r.timer.reached Config.powerCrossClear then
      ({ r with state := .clear, timer := r.timer.stop, source := .sense }, .clear, .exit)
    else (r, .none, .none)

/-- POWER_CROSS dealt with at a sample (R107 to R109). -/
def State.evalCross (s : State) (L : LineNo) (smp : Sample) (hook : Hook) : State × CondEffect × GuardRequest :=
  let f := (s.line L).fault
  let run := runAfter f.run (sampleHigh smp)
  let old := f.powerCross
  let r := (old.advance smp.elapsed.val).stepCross (sampleHigh smp) run s.time
  let s1 := s.setFault L { f with run := run }
  ((s1.storeCondition L .powerCross r.1).reportCondition L .powerCross old r.2.1 hook (max smp.vt.natAbs smp.vr.natAbs)
    true, r.2.1, r.2.2)

/-- What the Fault Monitor made of a sample: the effect of each condition's step. -/
structure FaultResult where
  cross : CondEffect := .none
  foreign : CondEffect := .none
  ac : CondEffect := .none
  leak : CondEffect := .none
  short : CondEffect := .none
  guard : GuardRequest := .none
  deriving DecidableEq, Repr

/-- The effect of a condition's step in a result. -/
def FaultResult.get (r : FaultResult) : Condition → CondEffect
  | .powerCross => r.cross
  | .foreignDc => r.foreign
  | .acInduced => r.ac
  | .leakage => r.leak
  | .loopShort => r.short

/-- Whether FOREIGN_DC is evaluated in a hook state (R110). -/
def Hook.evalsForeign : Hook → Bool
  | .onHook => true
  | .blocked => true
  | _ => false

/-- Whether AC_INDUCED is evaluated in a hook state (R112). -/
def Hook.evalsAc : Hook → Bool
  | .onHook => true
  | .blocked => true
  | .parked => true
  | .parkedOpen => true
  | _ => false

/-- A condition evaluated at a sample, or held if it is not evaluated there (R105, R118). -/
def State.evalIf (s : State) (evaluated : Bool) (L : LineNo) (c : Condition) (present : Bool) (e : Nat) (hook : Hook)
    (value : Nat) : State × CondEffect :=
  if evaluated then s.evalCondition L c present e hook value else (s, .none)

/-- The Fault Monitor takes a sample (R105): the AC average, then the five conditions in their order. `hook` is the hook
state as the Supervision Engine's step left it, `updated` says that the sample made a baseline update. -/
def State.faultConditions (s : State) (L : LineNo) (smp : Sample) (c : Conditioned) (hook : Hook) (updated : Bool) :
    State × FaultResult :=
  let e := smp.elapsed.val
  let p := (s.line L).profile
  let f := (s.line L).fault
  let a16 := a16After f.a16 (voltageChange smp c)
  let b16 := (s.line L).sup.b / 16
  let s0 := s.setFault L { f with a16 := a16 }
  let r1 := s0.evalCross L smp hook
  let r2 := r1.1.evalIf hook.evalsForeign L .foreignDc (decide (p.dcLimit < deviation p smp)) e hook (deviation p smp)
  let r3 := r2.1.evalIf hook.evalsAc L .acInduced (decide (p.acLimit < a16 / 16)) e hook (a16 / 16)
  let r4 := r3.1.evalIf updated L .leakage (decide (p.leakLimit < b16)) e hook b16
  let r5 := r4.1.evalIf true L .loopShort (shortPresent p hook smp) e hook ((rEst smp).getD 0)
  (r5.1, { cross := r1.2.1, foreign := r2.2, ac := r3.2, leak := r4.2, short := r5.2, guard := r1.2.2 })

/-- The GUARD request of a sample, taken after the conditions (R105 step 3, R108, R109). -/
def State.guardRequest (s : State) (L : LineNo) : GuardRequest → State
  | .none => s
  | .entry => s.guardEntry L
  | .exit => s.guardExit L

/-- A raise event of the Test Engine at the Fault Monitor of the tested line (R116, R120, R122). -/
def State.testRaise (s : State) (L : LineNo) (finding : Finding) (reading : Int) : State :=
  let f := (s.line L).fault
  let r := f.foreignDc
  match r.state with
  | .clear =>
    ((s.setFault L { f with foreignDc := { r with state := .raised, source := .test, raisedAt := s.time } }).markTimed
      L).stage (some L) (.faultRaised .foreignDc .test finding (s.line L).sup.hook reading)
  | .suspect =>
    ((s.setFault L { f with foreignDc := { state := .raised, timer := r.timer.stop, source := .test, raisedAt := s.time } }).markTimed
      L).stage (some L) (.faultRaised .foreignDc .test finding (s.line L).sup.hook reading)
  | .raised =>
    let s' := s.setFault L { f with foreignDc := { r with source := .test } }
    if r.source = .test then s' else s'.markTimed L
  | .clearing =>
    (s.setFault L { f with foreignDc := { r with state := .raised, timer := r.timer.stop, source := .test } }).markTimed L

end Sys2Proof.Machine
end

