-- ==== Sys2Proof/Machine/Samples.lean ====
section
/-! DEFINITION. One line's sample through its blocks in order (R10, R18, R44, R72, R88, R105), and the rows of the
table that name what a sample brings about: SEIZE_CONFIRM, RELEASE, PARKED_RELEASE, DIGIT_END,
FIRST_DIGIT_TIMEOUT, INTERDIGIT_TIMEOUT, TONE_WINDOW_EXPIRY, QUEUE_WAIT_NOTICE, CONDITION_CONFIRM,
CONDITION_CLEAR, POWER_CROSS_RAISE and POWER_CROSS_CLEAR. -/

namespace Sys2Proof.Machine

/-! ## The pool at a sample -/

/-- What the pool made of a sample. -/
structure PoolResult where
  expired : Bool := false
  noticed : Bool := false
  deriving DecidableEq, Repr

/-- The tone window timer of the line's receiver at a sample: advanced, and at its limit RX_WINDOW and a release
(R72, R73). -/
def State.windowStep (s : State) (L : LineNo) (r : RxNo) (e : Nat) : State × PoolResult :=
  let rx := s.receiver r
  let t := rx.window.advance e
  let s1 := s.setReceiver r { rx with window := t }
  if t.reached (1000 * (s.line L).profile.toneWindow) then
    ((s1.stage (some L) (.rxWindow r rx.accepted)).release L, { expired := true })
  else (s1, {})

/-- The entry of a line in the wait queue, with its position counted from 1 at the head. -/
def queuePosition (q : List QueueEntry) (L : LineNo) : Nat := q.findIdx (fun e => decide (e.line = L)) + 1

/-- The wait queue with the entry of one line replaced. -/
def setEntry (q : List QueueEntry) (L : LineNo) (x : QueueEntry) : List QueueEntry :=
  q.map (fun e => if e.line = L then x else e)

/-- The wait time of a queued line at a sample: advanced, and at queue_wait_notice RX_DELAY once per wait (R72). -/
def State.waitStep (s : State) (L : LineNo) (q : QueueEntry) (e : Nat) : State × PoolResult :=
  let w := min Config.timerMax (q.wait + e)
  if 1000 * (s.line L).profile.queueWaitNotice ≤ w ∧ q.noticed = false then
    let s1 := s.setQueue (setEntry s.pool.queue L { q with wait := w, noticed := true })
    (s1.stage (some L) (.rxDelay (queuePosition s.pool.queue L) s.pool.queue.length), { noticed := true })
  else (s.setQueue (setEntry s.pool.queue L { q with wait := w }), {})

/-- The pool takes a sample of a line that holds a receiver or a queue place. `fresh` says that the attachment or the
wait began at this very sample: its timer is not advanced there (R11, R84, log entry 20). -/
def State.poolStep (s : State) (L : LineNo) (e : Nat) (fresh : Bool) : State × PoolResult :=
  if fresh then (s, {})
  else
    match s.receiverOf L with
    | some r => s.windowStep L r e
    | none =>
      match s.pool.queue.find? (fun x => decide (x.line = L)) with
      | some q => s.waitStep L q e
      | none => (s, {})

/-! ## One sample -/

/-- What one sample of one line brought about, block by block. -/
structure SampleReport where
  sup : SupResult := {}
  dec : DecResult := {}
  coll : CollResult := {}
  pool : PoolResult := {}
  fault : FaultResult := {}
  deriving DecidableEq, Repr

/-- Whether the samples of a line are discarded: NOT_EQUIPPED or TESTING (R10). -/
def Hook.discards : Hook → Bool
  | .notEquipped => true
  | .testing => true
  | _ => false

/-- A park request of the collector, if there is one (R27, R99). -/
def State.parkIf (s : State) (L : LineNo) (asked : Bool) : State := if asked then s.park L else s

/-- One line's sample, taken by its blocks in order (R10, R18, R44, R72, R88, R105). The Fault Monitor reads the hook
state as the Supervision Engine's step left it, before a park of this sample (R105). -/
def State.takeSample (s : State) (L : LineNo) (smp : Sample) : State × SampleReport :=
  if (s.line L).sup.hook.discards then (s, {})
  else
    let c := (s.line L).conditioned smp
    let wasServed := s.served L
    let e := smp.elapsed.val
    let s1 := (s.conditionStep L smp).advanceTimer L e
    let r2 := s1.hookStep L smp c.filtered
    let r3 := r2.1.baselineStep L c smp.i
    let hook := (r3.1.line L).sup.hook
    let r4 := r3.1.decoderStep L r2.2.outcome e
    let r5 := r4.1.collectorStep L e r2.2.opened r4.2.digit
    let s5 := r5.1.parkIf L r5.2.park
    let r6 := s5.poolStep L e (!wasServed)
    let r7 := r6.1.faultConditions L smp c hook r3.2
    (r7.1.guardRequest L r7.2.guard, ⟨r2.2, r4.2, r5.2, r6.2, r7.2⟩)

/-! ## The rows that name an event of a sample -/

/-- Whether a sample of the line can arrive: the control state takes frames, the line's link is UP, and the triple is one
that a valid frame can hold (R3, R5, R12). -/
def State.sampleArrives (s : State) (L : LineNo) (smp : Sample) : Bool :=
  s.run.control.live && (s.link (linkOf L)).up && smp.inRange

end Sys2Proof.Machine
end

