-- ==== Sys2Proof/Machine/Layouts.lean ====
section
/-! DEFINITION. What the part writes: journal records, line status entries, the status block and order results, byte
by byte (spec/11_record_layouts.md, R82, R167, R168, R184, R185). -/

namespace Sys2Proof.Machine

/-! ## Encodings -/

/-- The encoding of a hook state. -/
def Hook.code : Hook → Nat
  | .notEquipped => 0
  | .onHook => 1
  | .seizePending => 2
  | .active => 3
  | .openInterval => 4
  | .parked => 5
  | .parkedOpen => 6
  | .blocked => 7
  | .testing => 8
  | .guard => 9

/-- The encoding of a collection state. -/
def CollState.code : CollState → Nat
  | .idle => 0
  | .collecting => 1
  | .done => 2

/-- The encoding of a condition state. -/
def CondState.code : CondState → Nat
  | .clear => 0
  | .suspect => 1
  | .raised => 2
  | .clearing => 3

/-- The encoding of a source of a symbol. -/
def Source.code : Source → Nat
  | .pulse => 0
  | .tone => 1

/-- The encoding of a fault source. -/
def FaultSource.code : FaultSource → Nat
  | .sense => 0
  | .test => 1

/-- The encoding of a condition. -/
def conditionCode : Condition → Nat
  | .powerCross => 0
  | .foreignDc => 1
  | .acInduced => 2
  | .leakage => 3
  | .loopShort => 4

/-- The encoding of a finding. -/
def Finding.code : Finding → Nat
  | .none => 0
  | .voltage => 1
  | .foreignSource => 2

/-- The encoding of an ON_HOOK reason. -/
def OnHookReason.code : OnHookReason → Nat
  | .release => 1
  | .guard => 2
  | .disabled => 3

/-- The encoding of a NUMBER reason. -/
def NumberReason.code : NumberReason → Nat
  | .early => 1
  | .terminator => 2
  | .length => 3
  | .full => 4
  | .timeout => 5

/-! ## Journal records -/

/-- The kind byte of a record, numbered 1..19 in the order of the record kinds table. -/
def RecordBody.kind : RecordBody → Nat
  | .offHook .. => 1
  | .onHook .. => 2
  | .flash .. => 3
  | .park => 4
  | .firstDigit .. => 5
  | .number .. => 6
  | .noDigits .. => 7
  | .lateDigit .. => 8
  | .trainCut .. => 9
  | .pulseOverrun .. => 9
  | .symbolRefused .. => 9
  | .rxDelay .. => 10
  | .rxWindow .. => 11
  | .faultRaised .. => 12
  | .faultCleared .. => 13
  | .linkLost .. => 14
  | .linkRestored .. => 15
  | .highwayLost .. => 16
  | .highwayRestored .. => 17
  | .gap .. => 18
  | .runStarted .. => 19

/-- The number whose bit `i` is the source of symbol `i` (the source mix of NUMBER). -/
def sourceMix : List DigitEntry → Nat
  | [] => 0
  | d :: ds => d.source.code + 2 * sourceMix ds

/-- Symbols two to a byte, the lower-numbered in bits 3..0. -/
def packSymbols : List DigitEntry → List Byte
  | [] => []
  | [a] => [BitVec.ofNat 8 a.symbol.val]
  | a :: b :: rest => BitVec.ofNat 8 (a.symbol.val + 16 * b.symbol.val) :: packSymbols rest

/-- The digit flags byte: bit 0 DISTORTED, bit 1 SPEED, bit 2 resumed. -/
def digitFlags (distorted speed resumed : Bool) : Nat := bit distorted + 2 * bit speed + 4 * bit resumed

/-- The fields of FIRST_DIGIT and LATE_DIGIT. -/
def DigitReport.fields (d : DigitReport) : List (Nat × List Byte) :=
  [byteField 0x08 d.symbol.val, byteField 0x09 d.source.code, byteField 0x0A (digitFlags d.distorted d.speed d.resumed),
   halfField 0x0C d.p1, byteField 0x0E d.share,
   byteField 0x0F ((d.receiver.map Fin.val).getD 255)]

/-- The fields of a DIAL_ERROR of the Pulse Decoder. -/
def TrainReport.fields (t : TrainReport) (reason : Nat) : List (Nat × List Byte) :=
  [byteField 0x08 reason, byteField 0x09 t.count, byteField 0x0A (bit t.overrun), halfField 0x0C t.p1,
   byteField 0x0E t.share, halfField 0x10 t.cutting]

/-- The body fields of a record, at their offsets in the 32-byte slot. -/
def RecordBody.fields : RecordBody → List (Nat × List Byte)
  | .offHook i found r =>
    [halfField 0x08 i, byteField 0x0A (bit found), wordField 0x0C (r.getD 0xFFFFFFFF)]
  | .onHook reason parked n t =>
    [byteField 0x08 reason.code, byteField 0x09 (bit parked), byteField 0x0A n, wordField 0x0C t.toNat]
  | .flash t n => [halfField 0x08 t, byteField 0x0A n]
  | .park => []
  | .firstDigit d => d.fields
  | .number str reason early resumed =>
    [byteField 0x08 str.length, byteField 0x09 reason.code, byteField 0x0A (early.getD 255),
     byteField 0x0B (digitFlags (str.any DigitEntry.distorted) (str.any DigitEntry.speed) resumed),
     (0x0C, leBytes 3 (sourceMix str)), (0x10, packSymbols str)]
  | .noDigits resumed => [byteField 0x08 (bit resumed)]
  | .lateDigit d => d.fields
  | .trainCut t => t.fields 1
  | .pulseOverrun t => t.fields 2
  | .symbolRefused r x => [byteField 0x08 3, byteField 0x12 r.val, byteField 0x13 x.val]
  | .rxDelay pos len => [byteField 0x08 pos, byteField 0x09 len]
  | .rxWindow r n => [byteField 0x08 r.val, byteField 0x09 n]
  | .faultRaised c src finding hook value =>
    [byteField 0x08 (conditionCode c), byteField 0x09 src.code, byteField 0x0A finding.code, byteField 0x0B hook.code,
     (0x0C, leInt 4 value)]
  | .faultCleared c src t => [byteField 0x08 (conditionCode c), byteField 0x09 src.code, wordField 0x0C t.toNat]
  | .linkLost g n => [byteField 0x08 g.val, byteField 0x09 n]
  | .linkRestored g n t => [byteField 0x08 g.val, byteField 0x09 n, wordField 0x0C t.toNat]
  | .highwayLost n => [byteField 0x08 n]
  | .highwayRestored t => [wordField 0x0C t.toNat]
  | .gap n t lines => [halfField 0x08 n, wordField 0x0C t.toNat, (0x10, leBytes 12 lines.toNat)]
  | .runStarted j p r sc lc =>
    [halfField 0x08 j, halfField 0x0A p, halfField 0x0C r, byteField 0x0E sc, byteField 0x0F lc]

/-- The line byte of a record: its line, or 255 for a record of no line. -/
def lineByte (L : Option LineNo) : Nat := (L.map Fin.val).getD 255

/-- The bytes 0x01..0x1F of a record's slot: the body write (R185). -/
def Record.bytes (r : Record) : List Byte :=
  (layout 32 ([byteField 0x01 r.body.kind, byteField 0x02 (lineByte r.line), wordField 0x04 r.time.toNat] ++
    r.body.fields)).drop 1

/-! ## Line status entries and the status block -/

/-- The receiver field of a line: its receiver, 8 in the queue, 15 otherwise (R82). -/
def State.receiverField (s : State) (L : LineNo) : Nat :=
  match s.receiverOf L with
  | some r => r.val
  | none => if s.queued L then 8 else 15

/-- The five condition states, two bits each in the condition order (spec/11, Line status entry). -/
def FaultRecord.states (f : FaultRecord) : Nat :=
  f.powerCross.state.code + 4 * f.foreignDc.state.code + 16 * f.acInduced.state.code + 64 * f.leakage.state.code +
    256 * f.loopShort.state.code

/-- The entry that a line's records give, with a receiver field (R42, R82, R103, R122, R134, R167). -/
def Line.entry (ln : Line) (receiverField : Nat) : List Byte :=
  layout 16 [byteField 0x00 ln.sup.hook.code, byteField 0x01 (ln.coll.state.code + 16 * receiverField),
    byteField 0x02 ln.coll.string.length,
    byteField 0x03 (bit ln.marks.profileClamped + 2 * bit ln.marks.foundAtStart + 4 * bit ln.fault.fromTest),
    halfField 0x04 ln.fault.states, halfField 0x06 (ln.sup.b / 16), halfField 0x08 ln.sup.tOn,
    wordField 0x0C ln.marks.lastChange.toNat]

/-- The 16 bytes of a line's status entry, as the line stands. -/
def State.entryBytes (s : State) (L : LineNo) : List Byte := (s.line L).entry (s.receiverField L)

/-- The twelve link states, bit `g` 1 for link `g` UP. -/
def State.linkBits (s : State) : Nat :=
  (List.finRange 12).foldl (fun acc g => acc + 2 ^ g.val * bit (s.link g).up) 0

/-- The line byte of a receiver in the status block: 255 when FREE or DISABLED (R82). -/
def State.receiverByte (s : State) (r : RxNo) : Byte := BitVec.ofNat 8 (lineByte (s.receiver r).line)

/-- The 64 bytes of the status block, as the part stands (R168). -/
def State.blockBytes (s : State) : List Byte :=
  layout 64 [wordField 0x00 s.time.toNat, halfField 0x04 s.journal.nextIndex,
    byteField 0x06 (bit s.journal.full + 2 * bit s.journal.roomLow), halfField 0x08 s.journal.dropped,
    byteField 0x0A (LineSet.lines s.journal.gapSet).length, halfField 0x0C s.executor.nextPriority,
    halfField 0x0E s.executor.nextRoutine, halfField 0x10 s.linkBits, byteField 0x12 (bit s.highway.good),
    byteField 0x13 (bit s.test.suspect), (0x14, allRx.map s.receiverByte), byteField 0x1C s.pool.queue.length]

/-! ## Order results -/

/-- The codes of the results (spec/11, Order record). -/
def resultOk : Nat := 0
def resultBadKind : Nat := 1
def resultBadLine : Nat := 2
def resultNotEquipped : Nat := 3
def resultLineBusy : Nat := 4
def resultWrongState : Nat := 5
def resultGuarded : Nat := 6
def resultSeized : Nat := 7
def resultSuspect : Nat := 8
def resultStopped : Nat := 9

/-- The result code of an answer by hook state. -/
def HookAnswer.code : HookAnswer → Nat
  | .ok => resultOk
  | .guarded => resultGuarded
  | .notEquipped => resultNotEquipped
  | .lineBusy => resultLineBusy

/-- The 28 bytes 0x04..0x1F of a completion: the code, the data, and zeros (R130, R184, R185). -/
def OrderResult.bytes (r : OrderResult) : List Byte := layout 28 [byteField 0 r.code, (1, r.data)]

/-- Result data given by its fields at their offsets in the order record. -/
def resultData (fields : List (Nat × List Byte)) : List Byte := (layout 32 fields).drop 5

/-- Empty result data (R184). -/
def emptyData : List Byte := List.replicate 27 0#8

/-- Result data of one byte at 0x05. -/
def oneByteData (n : Nat) : List Byte := resultData [byteField 0x05 n]

/-- The flags of one resistance beside its value: bits 27 to 31. -/
def Quantity.resistanceWord (q : Quantity) : Nat :=
  q.value.toNat % 2 ^ 27 + 2 ^ 27 * bit q.skipped + 2 ^ 28 * bit q.unstable + 2 ^ 29 * bit q.beyond +
    2 ^ 30 * bit q.coarse + 2 ^ 31 * bit q.foreign

/-- Byte 0x07 of a LINE_TEST result. -/
def Quantities.flagByte (q : Quantities) : Nat :=
  bit q.tipDc.skipped + 2 * bit q.tipDc.unstable + 4 * bit q.ringDc.skipped + 8 * bit q.ringDc.unstable +
    16 * bit q.cTr.skipped + 32 * bit q.cTr.unstable + 64 * bit q.cTr.beyond

/-- The result data of a LINE_TEST (spec/11): the hook state at admission, the mask as run, the finding and the eight
quantities. -/
def TestEngine.testData (t : TestEngine) (hook : Hook) : List Byte :=
  resultData [byteField 0x05 hook.code, byteField 0x06 (t.mask + 16 * t.finding.code),
    byteField 0x07 t.results.flagByte, (0x08, leInt 2 t.results.tipDc.value), (0x0A, leInt 2 t.results.tipAc.value),
    (0x0C, leInt 2 t.results.ringDc.value), (0x0E, leInt 2 t.results.ringAc.value),
    wordField 0x10 t.results.rTg.resistanceWord, wordField 0x14 t.results.rRg.resistanceWord,
    wordField 0x18 t.results.rTr.resistanceWord, (0x1C, leInt 2 t.results.cTr.value)]

end Sys2Proof.Machine
end

