-- ==== Sys2Proof/Machine/Port.lean ====
section
/-! DEFINITION. The memory port: the access each unit wants next, the grant, the freeze at a free port, the entry to
STOPPED and the beginning of the final batch (R163, R170, R172, R173, R180, R182, R185). -/

namespace Sys2Proof.Machine

/-- An access that a unit wants: the direction, the offset from AREA_BASE, the number of bytes, and the bytes of a write. -/
structure Request where
  write : Bool
  offset : Nat
  length : Nat
  data : List Byte
  deriving DecidableEq, Repr

/-- A read of `n` bytes. -/
def Request.read (offset n : Nat) : Request := ⟨false, offset, n, []⟩

/-- A write of some bytes. -/
def Request.put (offset : Nat) (data : List Byte) : Request := ⟨true, offset, data.length, data⟩

/-! ## The Journal Unit -/

/-- The offset of a journal slot. -/
def State.slotOffset (s : State) (i : Nat) : Nat := s.geometry.journalOffset + Config.recordSize * i

/-- The slot `n` places after the journal next index, wrapping (R163, R166). -/
def State.slotAhead (s : State) (n : Nat) : Nat := (s.journal.nextIndex + n) % s.geometry.journalLength

/-- The access that the Journal Unit's sequence wants (R163, R165 to R168, R185). -/
def State.journalRequest (s : State) : Option Request :=
  match s.journal.work with
  | none => none
  | some w =>
    match w.step with
    | .readOwner => some (.read (s.slotOffset s.journal.nextIndex) 1)
    | .writeBody => some (.put (s.slotOffset s.journal.nextIndex + 1) ((s.journal.queue.head?.map Record.bytes).getD []))
    | .writeFilled => some (.put (s.slotOffset s.journal.nextIndex) [1#8])
    | .roomRead => some (.read (s.slotOffset (s.slotAhead s.settings.roomThreshold)) 1)
    | .entries c =>
      match LineSet.nextFrom s.journal.dirty c with
      | some L => some (.put (Config.statusTableOffset + Config.statusEntrySize * L.val) (s.entryBytes L))
      | none => some (.put Config.statusBlockOffset s.blockBytes)
    | .entryWrite L => some (.put (Config.statusTableOffset + Config.statusEntrySize * L.val) (s.entryBytes L))
    | .block => some (.put Config.statusBlockOffset s.blockBytes)

/-- The Journal Unit's sequence as the grant of its access leaves it: at a status write the line leaves the dirty set,
or the status block is under way (R167, R168). -/
def State.journalGranted (s : State) : State :=
  match s.journal.work with
  | some ⟨kind, taken, wrote, .entries c⟩ =>
    match LineSet.nextFrom s.journal.dirty c with
    | some L =>
      s.setJournal { s.journal with
        work := some ⟨kind, taken, wrote, .entryWrite L⟩, dirty := LineSet.remove s.journal.dirty L }
    | none => s.setJournal { s.journal with work := some ⟨kind, taken, wrote, .block⟩ }
  | _ => s

/-! ## The Order Executor -/

/-- The offset of a list. -/
def Geometry.listOffset (g : Geometry) : OrderList → Nat
  | .priority => g.priorityOffset
  | .routine => g.routineOffset

/-- The length of a list. -/
def Geometry.listLength (g : Geometry) : OrderList → Nat
  | .priority => g.priorityLength
  | .routine => g.routineLength

/-- The next index of a list. -/
def Executor.next (e : Executor) : OrderList → Nat
  | .priority => e.nextPriority
  | .routine => e.nextRoutine

/-- The offset of an order record. -/
def State.orderOffset (s : State) (l : OrderList) (slot : Nat) : Nat :=
  s.geometry.listOffset l + Config.recordSize * slot

/-- The next read of a region of `size` bytes at `base` of which `got` bytes have been read: 64 bytes, or the remainder
(R172). -/
def chunk (base size got : Nat) : Request := .read (base + got) (min Config.accessMax (size - got))

/-- The next read of the two plan tables (R137, R172, R178). -/
def planChunk (lengths early : List Byte) : Request :=
  if lengths.length < Config.planLengthSize then chunk Config.planLengthOffset Config.planLengthSize lengths.length
  else chunk Config.earlyOffset Config.earlySize early.length

/-- The access that an order in execution wants: the reads of a reload (R133, R137, R138). -/
def OrderWork.request : OrderWork → Option Request
  | .engine => none
  | .profiles next _ _ _ _ => some (.read (Config.profileOffset + Config.profileSize * next) Config.profileSize)
  | .plan lengths early => some (planChunk lengths early)
  | .settings bytes => some (chunk Config.settingsOffset Config.settingsSize bytes.length)

/-- The access that the executor wants in its phase (R127, R128, R130, R185). -/
def State.executorRequest (s : State) : Option Request :=
  match s.executor.phase with
  | .idle => none
  | .lookPriority => some (.read (s.orderOffset .priority s.executor.nextPriority) 1)
  | .lookRoutine _ => some (.read (s.orderOffset .routine s.executor.nextRoutine) 1)
  | .takeRead l _ => some (.read (s.orderOffset l (s.executor.next l)) Config.recordSize)
  | .takeWrite o _ => some (.put (s.orderOffset o.list o.slot) [2#8])
  | .executing _ w => w.request
  | .writeResult o r => some (.put (s.orderOffset o.list o.slot + 4) r.bytes)
  | .writeDone o => some (.put (s.orderOffset o.list o.slot) [3#8])

/-! ## The start sequence -/

/-- A line at entry to RUNNING: R14 to R17, R43, R83, R104; the profile copy, PROFILE_CLAMPED and the time of last
change are those of the start sequence. -/
def Line.running (ln : Line) : Line :=
  { cond := { reseed := true }
    sup := {
      hook := if ln.profile.enabled then .onHook else .notEquipped
      tOn := tOnOf ln.profile 0
      tOff := tOffOf ln.profile (tOnOf ln.profile 0)
      startMark := ln.profile.enabled }
    dec := { threshold := ln.profile.gMax }
    coll := {}
    fault := {}
    profile := ln.profile
    marks := { ln.marks with foundAtStart := false } }

/-- The entry that the start writes for a line: the values the line takes at entry to RUNNING, with no receiver
(R178 step 5). -/
def State.startEntry (s : State) (L : LineNo) : List Byte := (s.line L).running.entry 15

/-- The access that the start sequence wants (R178). -/
def State.startRequest (s : State) : Option Request :=
  match s.run.start with
  | none => none
  | some q =>
    match q.step with
    | .settings bytes => some (chunk Config.settingsOffset Config.settingsSize bytes.length)
    | .plan lengths early => some (planChunk lengths early)
    | .profile L => some (.read (Config.profileOffset + Config.profileSize * L.val) Config.profileSize)
    | .entry L => some (.put (Config.statusTableOffset + Config.statusEntrySize * L.val) (s.startEntry L))
    | .block => some (.put Config.statusBlockOffset s.blockBytes)

/-! ## Granting -/

/-- The port BUSY with an access of a unit, at AREA_BASE plus the offset modulo 2^32 (R172). -/
def State.occupy (s : State) (u : MemUnit) (q : Request) : State :=
  s.setRun { s.run with
    port := .busy ⟨u, q.write, q.offset, q.length, q.data, s.run.areaBase + BitVec.ofNat 32 q.offset⟩ true }

/-- The port granted to the Journal Unit (R173). -/
def State.grantJournal (s : State) (q : Request) : State :=
  let s' := s.journalGranted.occupy .journal q
  s'.setRun { s'.run with lastGrantJournal := true }

/-- The port granted to the Order Executor (R173). -/
def State.grantExecutor (s : State) (q : Request) : State :=
  let s' := s.occupy .executor q
  s'.setRun { s'.run with lastGrantJournal := false }

/-- The FREE port granted to a waiting unit; with both waiting, to the unit other than the last grant (R173). -/
def State.grantShared (s : State) : State :=
  match s.journalRequest, s.executorRequest with
  | some a, some b => if s.run.lastGrantJournal then s.grantExecutor b else s.grantJournal a
  | some a, none => s.grantJournal a
  | none, some b => s.grantExecutor b
  | none, none => s

/-- The FREE port granted to the start sequence (R172, R178). -/
def State.grantStart (s : State) : State :=
  match s.startRequest with
  | some q => s.occupy .start q
  | none => s

/-- Entry to FROZEN, with the FROZEN cause (R180). -/
def State.enterFrozen (s : State) : State := (s.setRun { s.run with control := .frozen }).raiseCause .frozen

/-- Whether the executor still has a TAKEN write in flight or a completion to write in a stop (R131). -/
def ExecPhase.completing : ExecPhase → Bool
  | .takeWrite .. => true
  | .writeResult .. => true
  | .writeDone .. => true
  | _ => false

/-- In STOPPING the final batch begins when the batch in progress has ended and the completions of the stop are
written (R170). -/
def State.beginFinal (s : State) : State :=
  if s.journal.work = none ∧ s.executor.phase.completing = false then s.beginBatch .final else s

/-- What the port does at the end of a command, when every access that became ready in it waits: nothing while BUSY, a
grant in STARTING, RUNNING and STOPPING, the freeze in RUNNING with freeze asked 1 (R172, R173, R180; log entry 4). -/
def State.settle (s : State) : State :=
  match s.run.port with
  | .busy _ _ => s
  | .free =>
    match s.run.control with
    | .starting => s.grantStart
    | .running => if s.run.freezeAsked then s.enterFrozen else s.grantShared
    | .stopping => s.beginFinal.grantShared
    | _ => s

/-! ## Entry to STOPPED -/

/-- A line at entry to STOPPED (R15, R17, R43, R83, R104); the marks of its entry follow the changes (R42). DESIGN CHOICE
(log entry 31): R14 and R16 give the latches and the previous voltages no value here, and they stay as they are. -/
def Line.stopped (ln : Line) (now : Word) : Line :=
  { ln with
    cond := { ln.cond with reseed := false }
    sup := { ln.sup with hook := .notEquipped, timer := {}, guardReturn := .onHook, testReturn := .onHook, startMark := false }
    dec := ln.dec.emptied
    coll := {}
    fault := ln.fault.cleared
    marks := { ln.marks with
      foundAtStart := false
      lastChange := if ln.sup.hook = .notEquipped then ln.marks.lastChange else now } }

/-- A link at entry to STOPPED (R4). -/
def Link.stopped (l : Link) : Link := { downSince := l.downSince }

/-- The highway at entry to STOPPED (R62). -/
def Highway.stopped (h : Highway) : Highway := { lostSince := h.lostSince }

/-- The Journal Unit at entry to STOPPED (R157). -/
def Journal.stopped (j : Journal) : Journal := { nextIndex := j.nextIndex, firstDrop := j.firstDrop }

/-- The executor at entry to STOPPED (R123). -/
def Executor.stopped (e : Executor) : Executor := { nextPriority := e.nextPriority, nextRoutine := e.nextRoutine }

/-- The Test Engine at entry to STOPPED (R139). -/
def TestEngine.stopped (t : TestEngine) : TestEngine := { suspect := t.suspect }

/-- The Run Control at entry to STOPPED: freeze asked 0, the port FREE, the failed access cleared; the area base, the
enables, the causes, the start result and the last grant stay (R172, R173, R182). -/
def RunControl.stopped (r : RunControl) : RunControl :=
  { r with control := .stopped, freezeAsked := false, port := .free, failed := none, start := none }

/-- The pool at entry to STOPPED: every receiver FREE, the queue empty, the enabled count as it is (R66). -/
def Pool.stopped (p : Pool) : Pool := { enabledCount := p.enabledCount }

/-- Entry to STOPPED: every block takes its values (R182). -/
def State.enterStopped (s : State) : State :=
  { s with
    links := mapEach Link.stopped s.links
    lines := mapEach (fun ln => ln.stopped s.time) s.lines
    highway := s.highway.stopped
    pool := s.pool.stopped
    journal := s.journal.stopped
    executor := s.executor.stopped
    test := s.test.stopped
    run := s.run.stopped }

end Sys2Proof.Machine
end

