-- ==== Sys2Proof/Machine/LineTests.lean ====
section
/-! DEFINITION. The Test Engine: readings, verified readings, the three sub-tests, loop watch, discharge, the close of a
test, SELF_CHECK and a stop (R140 to R154). -/

namespace Sys2Proof.Machine

/-- The order in execution completes with a result: the executor goes to its completion (R130). -/
def State.completeOrder (s : State) (r : OrderResult) : State :=
  match s.executor.phase with
  | .executing o _ => s.setExecutor { s.executor with phase := .writeResult o r }
  | _ => s

/-! ## Readings (R140, R141) -/

/-- A conversion beyond the converter's range gives the end of the range (R140). -/
def convert (x : Int) : Int := clampInt (-2048) 2047 x

/-- The sum of some conversions. -/
def sumInt (xs : List Int) : Int := xs.foldl (· + ·) 0

/-- The DC value of a reading, a floor toward minus infinity (R140). -/
def readingDc (xs : List Int) : Int := sumInt (xs.map convert) / 20

/-- The AC value of a reading (R140). -/
def readingAc (xs : List Int) : Int :=
  sumInt (xs.map (fun x => ((convert x - readingDc xs).natAbs : Int))) / 20

/-- Two successive readings agree: within 2 counts or 2 % of the later one (R141). -/
def agrees (last r : Int) : Bool := decide ((r - last).natAbs ≤ max 2 (r.natAbs / 50))

/-- What a reading makes of a series. -/
inductive SeriesStep where
  | more (se : Series)
  | ended (unstable : Bool)
  deriving DecidableEq, Repr

/-- A reading taken into a series: the series ends at the first reading that agrees with the one before it, or after
eight with UNSTABLE (R141). -/
def Series.take (se : Series) (r : Int) : SeriesStep :=
  if se.taken = 0 then .more { se with taken := 1, last := r }
  else if agrees se.last r then .ended false
  else if Config.seriesLength ≤ se.taken + 1 then .ended true
  else .more { se with taken := se.taken + 1, last := r }

/-! ## Quantities -/

/-- The record of one resistance. -/
def Quantities.resistance (q : Quantities) : ResQ → Quantity
  | .tg => q.rTg
  | .rg => q.rRg
  | .tr => q.rTr

/-- The quantities with the record of one resistance replaced. -/
def Quantities.setResistance (q : Quantities) (r : ResQ) (x : Quantity) : Quantities :=
  match r with
  | .tg => { q with rTg := x }
  | .rg => { q with rRg := x }
  | .tr => { q with rTr := x }

/-- A quantity of a selected sub-test at the connection: value 0, flags cleared (R143). -/
def selectedQuantity (selected : Bool) : Quantity := { notRun := !selected }

/-- A quantity that a cut or a finding leaves without a value: SKIPPED if its sub-test was selected (R144, R145). -/
def Quantity.skip (q : Quantity) : Quantity :=
  if q.notRun || q.measured then q else { q with skipped := true }

/-- Every quantity not completed is SKIPPED, or keeps NOT_RUN (R145, R147, R149). -/
def Quantities.skipAll (q : Quantities) : Quantities :=
  ⟨q.tipDc.skip, q.tipAc.skip, q.ringDc.skip, q.ringAc.skip, q.rTg.skip, q.rRg.skip, q.rTr.skip, q.cTr.skip⟩

/-- A completed quantity with a value and UNSTABLE. -/
def measuredQuantity (value : Int) (unstable : Bool) : Quantity :=
  { value := value, notRun := false, unstable := unstable, measured := true }

/-- A resistance in ohms from V and I (R150): `scale` is 1000 on HIGH and 1,000,000 on LOW; OVER at no current or beyond
the largest value. -/
def resistance (scale : Nat) (v i : Int) : Nat × Bool :=
  if i ≤ 0 then (Config.resistanceMax, true)
  else
    let r := scale * v.toNat / i.toNat
    if Config.resistanceMax < r then (Config.resistanceMax, true) else (r, false)

/-- The record of a resistance formed from V and I (R150). -/
def resistanceQuantity (scale : Nat) (v i : Verified) (coarse : Bool) : Quantity :=
  let r := resistance scale v.value i.value
  { value := r.1, notRun := false, unstable := v.unstable || i.unstable, beyond := r.2, coarse := coarse, measured := true }

/-- The record of C_TR from d = V1 − V0 (R151). -/
def capacitanceQuantity (v0 : Verified) (v1 : Int) : Quantity :=
  let d := v1 - v0.value
  if d ≤ 0 then
    { value := Config.capacitanceMax, notRun := false, unstable := v0.unstable, beyond := true, measured := true }
  else
    let c := 10000 / d.toNat
    { value := min Config.capacitanceMax c, notRun := false, unstable := v0.unstable,
      beyond := decide (Config.capacitanceMax < c), measured := true }

/-! ## Steps of a test -/

/-- The mask has the mark of VOLTAGE, RESISTANCE or CAPACITANCE (R144). -/
def maskHas (mask : Nat) (i : Nat) : Bool := mask.testBit i

/-- The mask as run: the three marks of the order, or all three if it selects none (R144). -/
def maskOf (field : Nat) : Nat := if field % 8 = 0 then 7 else field % 8

/-- Begins a reading of a target as the next of its series. -/
def TestEngine.continueReading (t : TestEngine) (x : ReadTarget) (se : Series) : TestEngine :=
  { t with step := .reading x, series := se }

/-- Begins a verified reading of a target. -/
def TestEngine.beginSeries (t : TestEngine) (x : ReadTarget) : TestEngine :=
  t.continueReading x { target := some x }

/-- Begins a single reading of a target, which is no verified reading: the series stays empty (R141, R151). -/
def TestEngine.beginSingle (t : TestEngine) (x : ReadTarget) : TestEngine :=
  t.continueReading x {}

/-- Begins a discharge (R148). -/
def TestEngine.beginDischarge (t : TestEngine) (next : AfterDischarge) : TestEngine :=
  { t with phase := .discharging, stimulus := .zero, step := .discharge 0 next, series := {} }

/-- Begins a resistance quantity: HIGH range, the 50 V stimulus, charged, and the wait (R149, R150). -/
def TestEngine.beginResistance (t : TestEngine) (q : ResQ) : TestEngine :=
  { t with phase := .measuring, stimulus := .dc50 q, charged := true, rangeLow := false, step := .stimulusWait q 0, series := {} }

/-- The result code of a test (R152). -/
def TestEngine.resultCode (t : TestEngine) : Nat := if t.seized then resultSeized else resultOk

/-- The end of the close: the relays open, the line leaves TESTING, the engine is IDLE and the order completes
(R31, R152). -/
def State.finishTest (s : State) : State :=
  match s.test.connection with
  | none => s
  | some L =>
    let data := s.test.testData (s.line L).sup.testReturn.hook
    let code := s.test.resultCode
    let s1 := s.setTest { s.test with connection := none, phase := .idle, step := .idle, series := {} }
    (s1.returnLine L).completeOrder ⟨code, data⟩

/-- A test goes to its close (R152): the stimulus removed, a discharge if charged, then the end. -/
def State.closeTest (s : State) : State :=
  let t := { s.test with phase := .closing, stimulus := .none, step := .idle, series := {} }
  if t.charged then s.setTest (t.beginDischarge .close) else (s.setTest t).finishTest

/-- The test goes on after RESISTANCE, or after VOLTAGE with RESISTANCE not selected (R144). -/
def State.afterResistance (s : State) : State :=
  if maskHas s.test.mask 2 then s.setTest (s.test.beginDischarge .capacitance) else s.closeTest

/-- The test goes on after VOLTAGE, or begins without it (R143, R144). -/
def State.afterVoltage (s : State) : State :=
  if maskHas s.test.mask 1 then s.setTest (s.test.beginDischarge .resistance) else s.afterResistance

/-- The first selected sub-test begins at the end of the settle time (R143, R144). -/
def State.beginTests (s : State) : State :=
  let s1 := s.setTest { s.test with phase := .measuring, step := .idle }
  if maskHas s1.test.mask 0 then s1.setTest (s1.test.beginSeries .tip) else s1.afterVoltage

/-- A finding: the quantities left are SKIPPED, the Fault Monitor gets the raise event, the test closes (R147, R149). -/
def State.finding (s : State) (f : Finding) (reading : Int) : State :=
  let s1 := s.setTest { s.test with finding := f, results := s.test.results.skipAll, stimulus := .none }
  let s2 := match s1.test.connection with
    | some L => s1.testRaise L f reading
    | none => s1
  s2.closeTest

/-- The DC value of greater magnitude, TIP_DC on a tie (R147). -/
def judgedReading (tip ring : Int) : Int := if tip.natAbs < ring.natAbs then ring else tip

/-- VOLTAGE judged when both series are complete (R147). -/
def State.judgeVoltage (s : State) : State :=
  let tip := s.test.results.tipDc.value
  let ring := s.test.results.ringDc.value
  if Config.foreignLimit < tip.natAbs ∨ Config.foreignLimit < ring.natAbs then
    s.finding .voltage (judgedReading tip ring)
  else s.afterVoltage

/-- The next resistance quantity, or the end of the sub-test; the stimulus is removed first (R149). -/
def State.nextResistance (s : State) (q : ResQ) : State :=
  let s1 := s.setTest { s.test with stimulus := .none, step := .idle, series := {} }
  match q with
  | .tg => s1.setTest (s1.test.beginResistance .rg)
  | .rg => s1.setTest (s1.test.beginResistance .tr)
  | .tr => s1.afterResistance

/-- A completed resistance is stored and the next begins (R149, R150). -/
def State.storeResistance (s : State) (q : ResQ) (x : Quantity) : State :=
  (s.setTest { s.test with results := s.test.results.setResistance q x }).nextResistance q

/-- The collision check passes in 450..550 counts (R149). -/
def driveHolds (dc : Int) : Bool := decide (450 ≤ dc) && decide (dc ≤ 550)

/-- The collision check of a resistance fails: value 0, FOREIGN_SOURCE and the finding (R149). -/
def State.collision (s : State) (q : ResQ) (dc : Int) : State :=
  let x : Quantity := { notRun := false, foreign := true, measured := true }
  (s.setTest { s.test with results := s.test.results.setResistance q x }).finding .foreignSource dc

/-- Whether a reference's verified value lies in its band (R154). -/
def refZeroPasses (x : Int) : Bool := decide (-8 ≤ x) && decide (x ≤ 8)
def refMidPasses (x : Int) : Bool := decide (1008 ≤ x) && decide (x ≤ 1040)
def refFullPasses (x : Int) : Bool := decide (1976 ≤ x) && decide (x ≤ 2024)

/-- The result data of a SELF_CHECK (spec/11). -/
def selfCheckData (zero mid full : Verified) (suspect : Bool) : List Byte :=
  resultData [byteField 0x05 (bit (refZeroPasses zero.value) + 2 * bit (refMidPasses mid.value) +
      4 * bit (refFullPasses full.value)),
    byteField 0x06 (bit zero.unstable + 2 * bit mid.unstable + 4 * bit full.unstable), byteField 0x07 (bit suspect),
    (0x08, leInt 2 zero.value), (0x0A, leInt 2 mid.value), (0x0C, leInt 2 full.value)]

/-- The end of a SELF_CHECK: the converter state, the engine IDLE, the order completed OK (R154). -/
def State.finishCheck (s : State) (full : Verified) : State :=
  let zero := s.test.refZero
  let mid := s.test.refMid
  let suspect := !(refZeroPasses zero.value && refMidPasses mid.value && refFullPasses full.value)
  (s.setTest { s.test with suspect := suspect, phase := .idle, step := .idle, series := {} }).completeOrder
    ⟨resultOk, selfCheckData zero mid full suspect⟩

/-- A verified reading has ended with a value, the AC value of the same reading and UNSTABLE (R146 to R151, R154). -/
def State.seriesEnded (s : State) (x : ReadTarget) (dc ac : Int) (unstable : Bool) : State :=
  let t := { s.test with series := {} }
  match x with
  | .tip =>
    let x : Quantities := { t.results with
      tipDc := measuredQuantity dc unstable, tipAc := measuredQuantity ac unstable }
    s.setTest (TestEngine.beginSeries { t with results := x } .ring)
  | .ring =>
    let x : Quantities := { t.results with
      ringDc := measuredQuantity dc unstable, ringAc := measuredQuantity ac unstable }
    (s.setTest { t with results := x }).judgeVoltage
  | .drive q => s.setTest (TestEngine.beginSeries { t with drive := ⟨dc, unstable⟩, rangeLow := false } (.currentHigh q))
  | .currentHigh q =>
    if 100 ≤ dc.natAbs then
      (s.setTest t).storeResistance q (resistanceQuantity 1000 t.drive ⟨dc, unstable⟩ false)
    else s.setTest (TestEngine.beginSeries { t with high := ⟨dc, unstable⟩, rangeLow := true } (.currentLow q))
  | .currentLow q =>
    if 2047 ≤ dc.natAbs then (s.setTest t).storeResistance q (resistanceQuantity 1000 t.drive t.high true)
    else (s.setTest t).storeResistance q (resistanceQuantity 1000000 t.drive ⟨dc, unstable⟩ false)
  | .v0 => s.setTest { t with base := ⟨dc, unstable⟩, stimulus := .pulse, charged := true, step := .pulse 0 }
  | .v1 =>
    let x : Quantities := { t.results with cTr := capacitanceQuantity t.base dc }
    (s.setTest { t with results := x }).closeTest
  | .refZero => s.setTest (TestEngine.beginSeries { t with refZero := ⟨dc, unstable⟩ } .refMid)
  | .refMid => s.setTest (TestEngine.beginSeries { t with refMid := ⟨dc, unstable⟩ } .refFull)
  | .refFull => (s.setTest t).finishCheck ⟨dc, unstable⟩

/-- A reading of a target is used (R141, R149, R151): V1 is single; the first reading of a drive series is the collision
check; every other reading is one of its series. -/
def State.useReading (s : State) (x : ReadTarget) (dc ac : Int) : State :=
  match x with
  | .v1 => s.seriesEnded .v1 dc ac false
  | .drive q =>
    if s.test.series.taken = 0 ∧ driveHolds dc = false then s.collision q dc
    else
      match s.test.series.take dc with
      | .more se => s.setTest (s.test.continueReading (.drive q) se)
      | .ended u => s.seriesEnded (.drive q) dc ac u
  | _ =>
    match s.test.series.take dc with
    | .more se => s.setTest (s.test.continueReading x se)
    | .ended u => s.seriesEnded x dc ac u

/-- Whether a reading is one of a SELF_CHECK, after which no loop watch is read (R140, R154). -/
def ReadTarget.isReference : ReadTarget → Bool
  | .refZero => true
  | .refMid => true
  | .refFull => true
  | _ => false

/-- The conversions of the reading in progress arrive (R140): a LINE_TEST goes on to its loop watch read, a SELF_CHECK
uses the reading at once. With no reading in progress, or another number of conversions, nothing happens. -/
def State.readingDone (s : State) (xs : List Int) : State :=
  match s.test.step with
  | .reading x =>
    if xs.length = Config.readingLength then
      if x.isReference then s.useReading x (readingDc xs) (readingAc xs)
      else s.setTest { s.test with step := .watch x (readingDc xs) (readingAc xs) }
    else s
  | _ => s

/-- A seizure at a loop watch read cuts the test (R145). -/
def State.cutTest (s : State) : State :=
  (s.setTest { s.test with seized := true, results := s.test.results.skipAll }).closeTest

/-- The conversion of the loop watch read in progress arrives (R145). -/
def State.loopWatch (s : State) (v : Int) : State :=
  match s.test.step with
  | .watch x dc ac => if Config.loopWatchLimit ≤ (convert v).natAbs then s.cutTest else s.useReading x dc ac
  | _ => s

/-! ## Timed steps -/

/-- The expiry of a timed step, for the rows TEST_SETTLE_END, STIMULUS_WAIT_END, PULSE_END and DISCHARGE_END. -/
inductive TestExpiry where
  | none | settle | stimulusWait | pulse | discharge
  deriving DecidableEq, Repr

/-- The end of a discharge: the stimulus NONE, charged NO, and the test goes on or closes (R148). -/
def State.dischargeEnd (s : State) (next : AfterDischarge) : State :=
  let t := { s.test with stimulus := .none, charged := false, step := .idle }
  match next with
  | .resistance => s.setTest (TestEngine.beginResistance { t with phase := .measuring } .tg)
  | .capacitance => s.setTest (TestEngine.beginSeries { t with phase := .measuring } .v0)
  | .close => (s.setTest { t with phase := .closing }).finishTest

/-- One real millisecond of the timed step in progress (R143, R148, R149, R151). DESIGN CHOICE (log entry 37): the driven
voltage series begins, with no reading taken, at the end of the stimulus wait, so the series field names it during the
collision reading and its loop watch, before R149 makes that reading r_1. -/
def State.tickTest (s : State) : State × TestExpiry :=
  match s.test.step with
  | .settle ms =>
    if Config.settleMs ≤ ms + 1 then (s.beginTests, .settle)
    else (s.setTest { s.test with step := .settle (ms + 1) }, .none)
  | .stimulusWait q ms =>
    if Config.stimulusMs ≤ ms + 1 then (s.setTest (s.test.beginSeries (.drive q)), .stimulusWait)
    else (s.setTest { s.test with step := .stimulusWait q (ms + 1) }, .none)
  | .pulse ms =>
    if Config.pulseMs ≤ ms + 1 then (s.setTest (TestEngine.beginSingle { s.test with stimulus := .none } .v1), .pulse)
    else (s.setTest { s.test with step := .pulse (ms + 1) }, .none)
  | .discharge ms next =>
    if Config.dischargeMs ≤ ms + 1 then (s.dischargeEnd next, .discharge)
    else (s.setTest { s.test with step := .discharge (ms + 1) next }, .none)
  | _ => (s, .none)

/-! ## Admission, SELF_CHECK and a stop -/

/-- The engine at the connection of a line (R143). -/
def TestEngine.connected (t : TestEngine) (L : LineNo) (mask : Nat) : TestEngine :=
  let v := selectedQuantity (maskHas mask 0)
  let r := selectedQuantity (maskHas mask 1)
  let c := selectedQuantity (maskHas mask 2)
  { phase := .settling, step := .settle 0, connection := some L, results := ⟨v, v, v, v, r, r, r, c⟩, suspect := t.suspect, mask := mask }

/-- A LINE_TEST that has passed its checks is admitted and connects its line, or is refused (R142, R143). -/
def State.admitTest (s : State) (L : LineNo) (maskField : Nat) : State :=
  if s.test.suspect then s.completeOrder ⟨resultSuspect, emptyData⟩
  else
    match (s.line L).sup.hook.testAnswer with
    | .ok => (s.connectLine L).setTest (s.test.connected L (maskOf maskField))
    | a => s.completeOrder ⟨a.code, oneByteData (s.line L).sup.hook.code⟩

/-- A SELF_CHECK begins with REF_ZERO (R154). -/
def State.beginCheck (s : State) : State :=
  s.setTest (TestEngine.beginSeries { s.test with phase := .checking } .refZero)

/-- A stop from RUNNING ends the engine's work where it stands: the stimulus removed and the relays open, with no
discharge, the line back in its test return state; the converter state is unchanged (R153, R154). -/
def State.stopTest (s : State) : State :=
  let s1 := s.setTest { s.test with connection := none, stimulus := .none, phase := .idle, step := .idle, series := {} }
  match s.test.connection with
  | some L => s1.returnLine L
  | none => s1

end Sys2Proof.Machine
end

