-- ==== Sys2Proof/Machine/JournalUnit.lean ====
section
/-! DEFINITION. The Journal Unit at a completed access and at a poll or NUDGE: the batch, GAP, FULL, the room check, the
status write, the FULL re-read and the work owed (R160 to R170). -/

namespace Sys2Proof.Machine

/-- The sequence in progress at another step. -/
def State.workAt (s : State) (w : Work) (st : WorkStep) : State :=
  s.setJournal { s.journal with work := some { w with step := st } }

/-- GAP staged in the place that a written record freed, unless nothing was dropped or the part is STOPPING (R160). -/
def State.stageGap (s : State) : State :=
  let j := s.journal
  if j.dropped = 0 ∨ s.run.control = .stopping then s
  else (s.setJournal { j with dropped := 0, gapSet := 0 }).append none (.gap j.dropped j.firstDrop j.gapSet) true

/-- After its records a batch that wrote one makes the room check, and then the status write (R163, R166). -/
def State.afterRecords (s : State) (w : Work) : State :=
  if w.wrote = 0 then s.workAt w (.entries 0)
  else if s.settings.roomThreshold = 0 then
    State.workAt (s.setJournal { s.journal with roomLow := false }) w (.entries 0)
  else s.workAt w .roomRead

/-- A record written: it leaves the queue, the next index advances, GAP may take the freed place, and the batch goes on
with its next taken record or ends its records (R160, R162, R163). -/
def State.recordWritten (s : State) (w : Work) : State :=
  let j := s.journal
  let q := j.queue.tail
  let w' := { w with taken := w.taken - 1, wrote := w.wrote + 1 }
  let s1 := s.setJournal { j with
    queue := q
    nextIndex := (j.nextIndex + 1) % s.geometry.journalLength
    delay := if q.isEmpty then { j.delay with timer := j.delay.timer.stop } else j.delay }
  if w'.taken = 0 then s1.stageGap.afterRecords w' else s1.stageGap.workAt w' .readOwner

/-- A raise of a cause where a mark goes from 0 to 1. -/
def State.raiseIfNew (s : State) (old : Bool) (c : Cause) : State := if old then s else s.raiseCause c

/-- The journal found full: FULL, its cause if FULL was 0, and the rest of the batch (R164). -/
def State.foundFull (s : State) (w : Work) : State :=
  ((s.setJournal { s.journal with full := true }).raiseIfNew s.journal.full .full).afterRecords w

/-- The room check's read used, and the status write begun (R166). -/
def State.roomChecked (s : State) (w : Work) (data : List Byte) : State :=
  if isEmpty data then State.workAt (s.setJournal { s.journal with roomLow := false }) w (.entries 0)
  else
    State.workAt ((s.setJournal { s.journal with roomLow := true }).raiseIfNew s.journal.roomLow .roomLow) w (.entries 0)

/-- Begins a FULL re-read (R165). -/
def State.beginRecheck (s : State) : State :=
  s.setJournal { s.journal with work := some ⟨.recheck, 0, 0, .readOwner⟩ }

/-- With no sequence in progress, begins a batch owed unless FULL is 1, or a re-read owed if FULL is 1 (R161, R165). -/
def State.owedWork (s : State) : State :=
  if s.journal.work ≠ none then s
  else if s.journal.batchOwed = true ∧ s.journal.full = false then
    State.beginBatch (s.setJournal { s.journal with batchOwed := false }) .normal
  else if s.journal.recheckOwed = true ∧ s.journal.full = true then
    State.beginRecheck (s.setJournal { s.journal with recheckOwed := false })
  else s

/-- The batch absolute timer started again at the end of a batch that leaves records staged (R162). -/
def State.restartAbsolute (s : State) : State :=
  if s.journal.queue.isEmpty then s
  else s.setJournal { s.journal with absolute := startAbsolute s.settings s.journal.absolute }

/-- The end of a sequence: BATCH if it wrote a record, the absolute timer, and then entry to STOPPED after the final
batch, or the work owed in RUNNING (R161 to R163, R165, R170). -/
def State.endWork (s : State) (w : Work) : State :=
  let s1 := if w.wrote = 0 then s else s.raiseCause .batch
  let s2 := s1.setJournal { s1.journal with work := none }
  match w.kind with
  | .final => s2.enterStopped
  | .recheck => if s2.run.control = .running then s2.owedWork else s2
  | .normal =>
    let s3 := s2.restartAbsolute
    if s3.run.control = .running then s3.owedWork else s3

/-- A re-read finds its slot EMPTY: FULL becomes 0, and a batch begins at once, or is owed when the read was a retry that
leaves the part FROZEN; a re-read owed is made by this one (R161, R165, R181, log entries 17 and 34). -/
def State.recovered (s : State) : State :=
  if s.run.control = .frozen then
    s.setJournal { s.journal with full := false, recheckOwed := false, work := none, batchOwed := true }
  else State.beginBatch (s.setJournal { s.journal with full := false, recheckOwed := false }) .normal

/-- A re-read finds its slot not EMPTY: FULL stays, and the status write follows. A re-read owed is made by this one, but
in FROZEN it stays owed until the return to RUNNING (R165, log entry 17). -/
def State.stillFull (s : State) (w : Work) : State :=
  State.workAt (s.setJournal { s.journal with
    recheckOwed := s.journal.recheckOwed && decide (s.run.control = .frozen) }) w (.entries 0)

/-- The owner read of a record or of a re-read used (R163 to R165). -/
def State.ownerRead (s : State) (w : Work) (data : List Byte) : State :=
  match w.kind with
  | .recheck => if isEmpty data then s.recovered else s.stillFull w
  | _ => if isEmpty data then s.workAt w .writeBody else s.foundFull w

/-- The Journal Unit's access has succeeded, and its sequence goes on (R163 to R168). -/
def State.journalDone (s : State) (data : List Byte) : State :=
  match s.journal.work with
  | none => s
  | some w =>
    match w.step with
    | .readOwner => s.ownerRead w data
    | .writeBody => s.workAt w .writeFilled
    | .writeFilled => s.recordWritten w
    | .roomRead => s.roomChecked w data
    | .entries _ => s
    | .entryWrite L => s.workAt w (.entries (L.val + 1))
    | .block => s.endWork w

/-- The Journal Unit takes a poll expiry or a NUDGE (R165). -/
def State.journalPoll (s : State) : State :=
  if s.journal.full then
    match s.run.control with
    | .running => if s.journal.work = none then s.beginRecheck else s
    | .frozen => s.setJournal { s.journal with recheckOwed := true }
    | .memoryError => s.setJournal { s.journal with recheckOwed := true }
    | _ => s
  else s

end Sys2Proof.Machine
end

