-- ==== Sys2Proof/Machine/Orders.lean ====
section
/-! DEFINITION. The Order Executor: looks, takes, the checks, the per-line orders, the reloads and the completion
(R126 to R138, R85, R142, R154). -/

namespace Sys2Proof.Machine

/-! ## Phases -/

/-- The executor at another phase. -/
def State.atPhase (s : State) (p : ExecPhase) : State := s.setExecutor { s.executor with phase := p }

/-- The executor becomes IDLE at the end of a completion or of an abandoned take: in RUNNING a look is made at once; in
FROZEN, which a retry with freeze asked 1 has just reached, the look is owed (R126, R181, log entry 34). -/
def State.becomeIdle (s : State) : State :=
  match s.run.control with
  | .running => s.atPhase .lookPriority
  | .frozen => s.setExecutor { s.executor with phase := .idle, lookOwed := true }
  | _ => s.atPhase .idle

/-- The executor takes a poll expiry or a NUDGE (R126). -/
def State.executorPoll (s : State) : State :=
  if s.executor.phase = .idle then
    match s.run.control with
    | .running => s.atPhase .lookPriority
    | .frozen => s.setExecutor { s.executor with lookOwed := true }
    | .memoryError => s.setExecutor { s.executor with lookOwed := true }
    | _ => s
  else s

/-- A look owed is made at the return to RUNNING if the phase is IDLE (R126). -/
def State.owedLook (s : State) : State :=
  if s.executor.lookOwed = true ∧ s.executor.phase = .idle then
    s.setExecutor { s.executor with phase := .lookPriority, lookOwed := false }
  else s

/-- The return to RUNNING from FROZEN or MEMORY_ERROR: the work owed (R126, R161, R165, R180). -/
def State.returned (s : State) : State := s.owedWork.owedLook

/-! ## The choice (R127) -/

/-- The other list. -/
def OrderList.other : OrderList → OrderList
  | .priority => .routine
  | .routine => .priority

/-- The weight of a list. -/
def Settings.weight (st : Settings) : OrderList → Nat
  | .priority => st.weightPriority
  | .routine => st.weightRoutine

/-- The choice of a look: the list to take from and served after the take; `none` for no take (R127). -/
def chooseList (current : OrderList) (served weight : Nat) (currentWork otherWork : Bool) : Option (OrderList × Nat) :=
  match currentWork, decide (served < weight), otherWork with
  | true, true, _ => some (current, served + 1)
  | true, false, true => some (current.other, 1)
  | true, false, false => some (current, 1)
  | false, _, true => some (current.other, 1)
  | false, _, false => none

/-- Whether a list has work, given what the look read of each. -/
def hasWork (priority routine : Bool) : OrderList → Bool
  | .priority => priority
  | .routine => routine

/-- The look ends with its choice (R127). -/
def State.lookDone (s : State) (priority routine : Bool) : State :=
  let e := s.executor
  match chooseList e.current e.served (s.settings.weight e.current) (hasWork priority routine e.current)
    (hasWork priority routine e.current.other) with
  | some (l, n) => s.atPhase (.takeRead l n)
  | none => s.atPhase .idle

/-! ## Per-line orders (R132) -/

/-- The line of an order, if its field names one. -/
def Order.line (o : Order) : Option LineNo :=
  if h : o.lineField < 96 then some ⟨o.lineField, h⟩ else none

/-- Whether a hook state holds or awaits receivers: ACTIVE or OPEN_INTERVAL (R68, R132). -/
def Hook.takesReceiver : Hook → Bool
  | .active => true
  | .openInterval => true
  | _ => false

/-- The result data of an answer to ATTACH_RECEIVER. -/
def Answer.data : Answer → List Byte
  | .attached r => resultData [byteField 0x05 1, byteField 0x06 r.val]
  | .queued => resultData [byteField 0x05 2]

/-- The result data of DETACH_RECEIVER. -/
def Taken.data : Taken → List Byte
  | .nothing => resultData [byteField 0x05 0]
  | .receiver r => resultData [byteField 0x05 1, byteField 0x06 r.val]
  | .place => resultData [byteField 0x05 2]

/-- A BLOCK order at its line (R29, R132). -/
def State.orderBlock (s : State) (L : LineNo) : State :=
  let h := (s.line L).sup.hook
  (s.blockLine L).completeOrder ⟨h.blockAnswer.code, oneByteData h.code⟩

/-- An UNBLOCK order at its line (R30, R132). -/
def State.orderUnblock (s : State) (L : LineNo) : State :=
  (s.unblockLine L).completeOrder ⟨resultOk, oneByteData (s.line L).sup.hook.code⟩

/-- An ATTACH_RECEIVER order at the pool (R67, R132). -/
def State.orderAttach (s : State) (L : LineNo) : State :=
  if (s.line L).sup.hook.takesReceiver then (s.request L).completeOrder ⟨resultOk, (s.answer L).data⟩
  else s.completeOrder ⟨resultWrongState, emptyData⟩

/-- A DETACH_RECEIVER order at the pool (R70, R132). -/
def State.orderDetach (s : State) (L : LineNo) : State :=
  (s.release L).completeOrder ⟨resultOk, (s.held L).data⟩

/-- A RESUME_COLLECTION order at the Digit Collector (R85, R132). -/
def State.orderResume (s : State) (L : LineNo) : State :=
  let c := (s.line L).coll.state
  if (s.line L).sup.hook = .active ∧ c = .done then
    ((s.openCollection L true).requestIfTone L).completeOrder ⟨resultOk, oneByteData c.code⟩
  else s.completeOrder ⟨resultWrongState, oneByteData c.code⟩

/-! ## Checks and execution (R129) -/

/-- Whether the line range of a RELOAD_PROFILES is in bounds (R129). -/
def Order.rangeFits (o : Order) : Bool :=
  decide (1 ≤ o.count) && decide (o.count ≤ 96) && decide (o.lineField + o.count ≤ 96)

/-- The order in execution completes with a failed check (R129). -/
def State.failCheck (s : State) (code : Nat) : State := s.completeOrder ⟨code, emptyData⟩

/-- An order of a kind that names one line, after the line check (R129). -/
def State.onLine (s : State) (o : Order) (act : State → LineNo → State) : State :=
  match o.line with
  | some L => act s L
  | none => s.failCheck resultBadLine

/-- The order just written TAKEN is checked and carried out, or begins its reads or its test (R129). -/
def State.carryOut (s : State) (o : Order) : State :=
  let s0 := s.atPhase (.executing o .engine)
  match o.kind with
  | none => s0.failCheck resultBadKind
  | some .block => s0.onLine o State.orderBlock
  | some .unblock => s0.onLine o State.orderUnblock
  | some .attachReceiver => s0.onLine o State.orderAttach
  | some .detachReceiver => s0.onLine o State.orderDetach
  | some .resumeCollection => s0.onLine o State.orderResume
  | some .lineTest => s0.onLine o (fun t L => t.admitTest L o.count)
  | some .selfCheck => s0.beginCheck
  | some .reloadProfiles =>
    if o.rangeFits then s.atPhase (.executing o (.profiles o.lineField o.count 0 0 0)) else s0.failCheck resultBadLine
  | some .reloadPlan => s.atPhase (.executing o (.plan [] []))
  | some .reloadSettings => s.atPhase (.executing o (.settings []))

/-! ## Reloads -/

/-- PROFILE_CLAMPED of a line set or cleared; the entry is marked if the flag changes (R134). -/
def State.markClamped (s : State) (L : LineNo) (clamped : Bool) : State :=
  let s' := s.setMarks L { (s.line L).marks with profileClamped := clamped }
  if (s.line L).marks.profileClamped = clamped then s' else s'.markUntimed L

/-- A profile whose dial_mode loses TONE releases its line (R136). -/
def State.loseTone (s : State) (L : LineNo) (old new : Profile) : State :=
  if old.dialMode.hasTone = true ∧ new.dialMode.hasTone = false then s.release L else s

/-- New values act on a line that stays enabled: the thresholds from the present B (R35) and the pulse decoder (R59). -/
def State.refreshLine (s : State) (L : LineNo) : State :=
  let s1 := s.setBaseline L (s.line L).sup.b (s.line L).sup.seeded
  s1.setDec L ((s1.line L).dec.reload (s1.line L).profile)

/-- A profile record applied to a line as one event (R134 to R136). -/
def State.applyProfile (s : State) (L : LineNo) (bs : List Byte) : State :=
  let old := (s.line L).profile
  let new := parseProfile bs
  let s1 := (s.setProfile L new).markClamped L (decide (0 < profileClamped bs))
  if (s.line L).sup.hook = .notEquipped then (if new.enabled then s1.enableLine L else s1)
  else if new.enabled then (s1.refreshLine L).loseTone L old new
  else (s1.disableLine L).loseTone L old new

/-- A profile read: applied, and the next one asked for, or the order completed (R133). -/
def State.profileRead (s : State) (o : Order) (next left applied lines fields : Nat) (data : List Byte) : State :=
  let n := profileClamped data
  let lines' := if n = 0 then lines else lines + 1
  let s1 := if h : next < 96 then s.applyProfile ⟨next, h⟩ data else s
  if left ≤ 1 then
    s1.completeOrder ⟨resultOk, resultData [byteField 0x05 (applied + 1), byteField 0x06 lines', halfField 0x08 (fields + n)]⟩
  else s1.atPhase (.executing o (.profiles (next + 1) (left - 1) (applied + 1) lines' (fields + n)))

/-- A plan table read joined to what has been read. -/
def joinPlan (lengths early data : List Byte) : List Byte × List Byte :=
  if lengths.length < Config.planLengthSize then (lengths ++ data, early) else (lengths, early ++ data)

/-- Whether both plan tables have been read. -/
def planRead (p : List Byte × List Byte) : Bool :=
  decide (Config.planLengthSize ≤ p.1.length) && decide (Config.earlySize ≤ p.2.length)

/-- A part of the plan read: the copy replaced when both tables are read (R87, R137). -/
def State.planPart (s : State) (o : Order) (lengths early data : List Byte) : State :=
  let p := joinPlan lengths early data
  if planRead p then
    let plan := parsePlan p.1 p.2
    State.completeOrder { s with plan := plan }
      ⟨resultOk, resultData [byteField 0x05 plan.usedEarly, byteField 0x06 (alteredLengths p.1)]⟩
  else s.atPhase (.executing o (.plan p.1 p.2))

/-- The batch absolute timer stopped by a batch_absolute of 0 (R162). -/
def Journal.stopAbsolute (j : Journal) (batchAbsolute : Nat) : Journal :=
  if batchAbsolute = 0 then { j with absolute := { j.absolute with timer := j.absolute.timer.stop } } else j

/-- A room check that still waits for its read when room_threshold becomes 0 makes none: ROOM_LOW becomes 0 and the status
write is next, since the check goes by the room_threshold held at it (R166, log entry 36). -/
def Journal.dropRoomRead (j : Journal) (threshold : Nat) : Journal :=
  match j.work with
  | some ⟨kind, taken, wrote, .roomRead⟩ =>
    if threshold = 0 then { j with roomLow := false, work := some ⟨kind, taken, wrote, .entries 0⟩ } else j
  | _ => j

/-- The non-geometry settings of a region applied together (R74, R138, R161, R162, R166). -/
def State.applySettings (s : State) (bs : List Byte) : State :=
  let st := parseSettings s.geometry.journalLength bs
  let s1 : State := { s with settings := st, journal := (s.journal.stopAbsolute st.batchAbsolute).dropRoomRead st.roomThreshold }
  let s2 := if st.receiversEnabled = s.pool.enabledCount then s1 else s1.changeEnabled st.receiversEnabled
  if st.batchCount ≤ s2.journal.queue.length then s2.trigger else s2

/-- A part of the settings read: all fields applied when the region is read (R138). -/
def State.settingsPart (s : State) (o : Order) (bytes data : List Byte) : State :=
  let bs := bytes ++ data
  if Config.settingsSize ≤ bs.length then
    (s.applySettings bs).completeOrder ⟨resultOk, oneByteData (settingsClamped s.geometry.journalLength bs)⟩
  else s.atPhase (.executing o (.settings bs))

/-! ## The executor at a completed access -/

/-- The next index of a list advanced by a take (R125). -/
def Executor.advance (e : Executor) (g : Geometry) : OrderList → Executor
  | .priority => { e with nextPriority := (e.nextPriority + 1) % g.priorityLength }
  | .routine => { e with nextRoutine := (e.nextRoutine + 1) % g.routineLength }

/-- TAKEN has been written (R128): the index, the current list and served change, and the order is carried out, or
completes STOPPED in a stop (R131). -/
def State.orderTaken (s : State) (o : Order) (served : Nat) : State :=
  let s1 := s.setExecutor { s.executor.advance s.geometry o.list with current := o.list, served := served }
  if s1.run.control = .stopping then s1.atPhase (.writeResult o ⟨resultStopped, emptyData⟩) else s1.carryOut o

/-- The read of a take (R128): the copy is kept and TAKEN comes next, or the take is abandoned. -/
def State.takeReadDone (s : State) (l : OrderList) (served : Nat) (data : List Byte) : State :=
  if isReady data then s.atPhase (.takeWrite ⟨l, s.executor.next l, data⟩ served) else s.becomeIdle

/-- A read of an order in execution (R133, R137, R138). -/
def State.workRead (s : State) (o : Order) (data : List Byte) : OrderWork → State
  | .engine => s
  | .profiles next left applied lines fields => s.profileRead o next left applied lines fields data
  | .plan lengths early => s.planPart o lengths early data
  | .settings bytes => s.settingsPart o bytes data

/-- The executor's access has succeeded, and its sequence goes on (R127 to R130). -/
def State.executorDone (s : State) (data : List Byte) : State :=
  match s.executor.phase with
  | .idle => s
  | .lookPriority => s.atPhase (.lookRoutine (isReady data))
  | .lookRoutine p => s.lookDone p (isReady data)
  | .takeRead l n => s.takeReadDone l n data
  | .takeWrite o n => s.orderTaken o n
  | .executing o w => s.workRead o data w
  | .writeResult o _ => s.atPhase (.writeDone o)
  | .writeDone _ => (s.raiseCause .order).becomeIdle

end Sys2Proof.Machine
end

