-- ==== Sys2Proof/Machine/Start.lean ====
section
/-! DEFINITION. The start sequence and entry to RUNNING (R4, R62, R66, R123, R139, R157, R178, R179). -/

namespace Sys2Proof.Machine

/-- A link at entry to RUNNING (R4). -/
def Link.running (now : Word) : Link := { downSince := now }

/-- The highway at entry to RUNNING (R62). -/
def Highway.running (now : Word) : Highway := { lostSince := now }

/-- A receiver at entry to RUNNING: FREE below the enabled count, DISABLED at or above it (R66). -/
def Receiver.running (n r : Nat) : Receiver := { state := if r < n then .free else .disabled }

/-- The pool at entry to RUNNING (R66). -/
def Pool.running (n : Nat) : Pool :=
  { enabledCount := n
    rx := #v[.running n 0, .running n 1, .running n 2, .running n 3, .running n 4, .running n 5, .running n 6,
      .running n 7] }

/-- The Journal Unit at entry to RUNNING: the queue, the timers and batch owed as STARTING left them (R157). -/
def Journal.running (j : Journal) : Journal :=
  { queue := j.queue, batchOwed := j.batchOwed, delay := j.delay, absolute := j.absolute }

/-- The executor at entry to RUNNING: the poll timer started, and the look of R123 and R126 made, or owed if the freeze
follows at once (R178). -/
def Executor.running (freezeAsked : Bool) : Executor :=
  { phase := if freezeAsked then .idle else .lookPriority, poll := Timer.started, lookOwed := freezeAsked }

/-- Entry to RUNNING from STARTING: every block takes its values (R178 step 7). -/
def State.enterRunning (s : State) : State :=
  { s with
    links := mapEach (fun _ => Link.running s.time) s.links
    lines := mapEach Line.running s.lines
    highway := Highway.running s.time
    pool := Pool.running s.settings.receiversEnabled
    journal := s.journal.running
    executor := Executor.running s.run.freezeAsked
    test := { suspect := s.test.suspect }
    run := { s.run with control := .running, startResult := .ok, start := none } }

/-- The start sequence at another step. -/
def State.startAt (s : State) (q : StartSeq) : State := s.setRun { s.run with start := some q }

/-- A start that cannot complete ends in STOPPED with its start result (R179). -/
def State.failStart (s : State) (r : StartResult) : State :=
  (s.setRun { s.run with startResult := r }).enterStopped

/-- The settings region read: the geometry checked and kept, the other fields clamped (R174, R178 steps 1 and 2). -/
def State.startSettings (s : State) (q : StartSeq) (bytes data : List Byte) : State :=
  let bs := bytes ++ data
  if bs.length < Config.settingsSize then s.startAt { q with step := .settings bs }
  else
    let g := parseGeometry bs
    if g.passes then
      State.startAt { s with geometry := g, settings := parseSettings g.journalLength bs }
        { q with step := .plan [] [], settingsClamped := settingsClamped g.journalLength bs }
    else s.failStart .badLayout

/-- A part of the plan tables read (R178 step 3). -/
def State.startPlan (s : State) (q : StartSeq) (lengths early data : List Byte) : State :=
  let p := joinPlan lengths early data
  if planRead p then State.startAt { s with plan := parsePlan p.1 p.2 } { q with step := .profile 0 }
  else s.startAt { q with step := .plan p.1 p.2 }

/-- Step 5 begins: the next indices become 0 and every line's time of last change the cabinet time (R178). -/
def State.beginEntries (s : State) : State :=
  { s with
    journal := { s.journal with nextIndex := 0 }
    executor := { s.executor with nextPriority := 0, nextRoutine := 0 }
    lines := mapEach (fun ln => { ln with marks := { ln.marks with lastChange := s.time } }) s.lines }

/-- A profile read: stored with its PROFILE_CLAMPED, and its line counted if a field was changed (R133, R178 step 4). -/
def State.startProfile (s : State) (q : StartSeq) (L : LineNo) (data : List Byte) : State :=
  let n := profileClamped data
  let s1 := s.setProfile L (parseProfile data)
  let s2 := s1.setMarks L { (s1.line L).marks with profileClamped := decide (0 < n) }
  let lines := if n = 0 then q.linesClamped else q.linesClamped + 1
  if h : L.val + 1 < 96 then s2.startAt { q with step := .profile ⟨L.val + 1, h⟩, linesClamped := lines }
  else s2.beginEntries.startAt { q with step := .entry 0, linesClamped := lines }

/-- An entry written: the next one, or the status block (R178 step 5). -/
def State.startEntryDone (s : State) (q : StartSeq) (L : LineNo) : State :=
  if h : L.val + 1 < 96 then s.startAt { q with step := .entry ⟨L.val + 1, h⟩ } else s.startAt { q with step := .block }

/-- RUN_STARTED staged, entry to RUNNING, and the batch owed unless the freeze follows at once (R178 steps 6 and 7). DESIGN
CHOICE (log entry 35): the two steps make no access, and both are taken at the response to the status block write. -/
def State.startEnds (s : State) (q : StartSeq) : State :=
  let g := s.geometry
  let s1 := (s.stage none (.runStarted g.journalLength g.priorityLength g.routineLength q.settingsClamped
    q.linesClamped)).enterRunning
  if s.run.freezeAsked then s1 else s1.owedWork

/-- The start sequence's access has succeeded, and it goes on (R178). -/
def State.startDone (s : State) (data : List Byte) : State :=
  match s.run.start with
  | none => s
  | some q =>
    match q.step with
    | .settings bytes => s.startSettings q bytes data
    | .plan lengths early => s.startPlan q lengths early data
    | .profile L => s.startProfile q L data
    | .entry L => s.startEntryDone q L
    | .block => s.startEnds q

end Sys2Proof.Machine
end

