-- ==== Sys2Proof/Machine/Access.lean ====
section
/-! DEFINITION. The outcomes of the access in flight (R172, R179, R181, R182): MEMORY_ACCESS_DONE, MEMORY_ACCESS_ERROR
and MEMORY_ACCESS_TIMEOUT, and the rows that name the order which a good response puts in execution or carries on. -/

namespace Sys2Proof.Machine

/-- The port FREE. -/
def State.freePort (s : State) : State := s.setRun { s.run with port := .free }

/-- One of the two units that share the port goes on after its access has succeeded. -/
def State.unitDone (s : State) (u : MemUnit) (data : List Byte) : State :=
  match u with
  | .journal => s.journalDone data
  | .executor => s.executorDone data
  | .start => s

/-- The retry of the failed access has succeeded (R181). With freeze asked 0 the part is RUNNING, the unit goes on, and the
work owed begins. With freeze asked 1 the part is FROZEN with its cause, and the unit goes on from there: it takes what
the access gave, and what would begin in RUNNING, a batch or a look, is owed (R161, log entry 34). -/
def State.retryDone (s : State) (u : MemUnit) (data : List Byte) : State :=
  let s1 := s.setRun { s.run with failed := none }
  if s.run.freezeAsked then State.unitDone s1.enterFrozen u data
  else (State.unitDone (s1.setRun { s1.run with control := .running }) u data).returned

/-- Whether the bytes of a response fit an access: a read returns as many as it asked for. -/
def Access.answeredBy (a : Access) (data : List Byte) : Bool := a.write || decide (data.length = a.length)

/-- The access in flight completes with a good response. With none in flight, and with a number of bytes other than
the read asked for, there is no such response (log entry 4). -/
def State.accessDone (s : State) (data : List Byte) : State :=
  match s.run.port with
  | .free => s
  | .busy a live =>
    if a.answeredBy data then
      let s1 := s.freePort
      match s.run.control with
      | .starting => (s1.startDone data).settle
      | .running => (s1.unitDone a.unit data).settle
      | .stopping => (if live then s1.unitDone a.unit data else s1).settle
      | .memoryError => (s1.retryDone a.unit data).settle
      | .stopped => s1
      | .frozen => s1
    else s

/-- The access in flight fails (R172): the outcome is the one the control state gives (R179, R181). -/
def State.accessFailed (s : State) : State :=
  match s.run.port with
  | .free => s
  | .busy a _ =>
    match s.run.control with
    | .starting => (s.raiseCause .memError).failStart .memError
    | .running =>
      State.raiseCause (s.setRun { s.run with control := .memoryError, failed := some a, port := .free }) .memError
    | .memoryError => s.freePort.raiseCause .memError
    | .stopping => (s.raiseCause .memError).enterStopped
    | .stopped => s.freePort
    | .frozen => s.freePort

/-! ## The rows of the responses -/

/-- MEMORY_ACCESS_DONE (R172). -/
def execMemoryAccessDone (data : List Byte) (s : State) : Host.Outcome State Fault Refusal := .next (s.accessDone data)

/-- MEMORY_ACCESS_ERROR (R181). -/
def execMemoryAccessError (s : State) : Host.Outcome State Fault Refusal := .next s.accessFailed

/-- MEMORY_ACCESS_TIMEOUT (R172): the port abandons the access, which has failed. -/
def execMemoryAccessTimeout (s : State) : Host.Outcome State Fault Refusal := .next s.accessFailed

/-! ## The rows of the orders (log entries 1 and 9) -/

/-- The access in flight, when its good response is used by its unit: in RUNNING, or as a retry in MEMORY_ERROR. -/
def State.inFlight (s : State) : Option Access :=
  match s.run.port, s.run.control with
  | .busy a true, .running => some a
  | .busy a true, .memoryError => some a
  | _, _ => none

/-- The order that the good response to the access in flight puts in execution: the access is its TAKEN write. -/
def State.taking (s : State) : Option Order :=
  match s.inFlight, s.executor.phase with
  | some a, .takeWrite o _ => if a.unit = .executor ∧ a.write = true then some o else none
  | _, _ => none

/-- The good response to the access in flight puts an order of a kind in execution. -/
def State.takes (s : State) (k : OrderKind) : Bool :=
  match s.taking with
  | some o => decide (o.kind = some k)
  | none => false

/-- The good response to the access in flight puts an order of a kind for a line in execution. -/
def State.takesFor (s : State) (k : OrderKind) (L : LineNo) : Bool :=
  match s.taking with
  | some o => decide (o.kind = some k) && decide (o.lineField = L.val)
  | none => false

/-- The good response to the access in flight returns a read of an order in execution, whose work `is` tests. -/
def State.reading (s : State) (is : OrderWork → Bool) : Bool :=
  match s.inFlight, s.executor.phase with
  | some a, .executing _ w => decide (a.unit = .executor) && !a.write && is w
  | _, _ => false

/-- The work of a RELOAD_PROFILES. -/
def OrderWork.isProfiles : OrderWork → Bool
  | .profiles .. => true
  | _ => false

/-- The work of a RELOAD_PLAN. -/
def OrderWork.isPlan : OrderWork → Bool
  | .plan .. => true
  | _ => false

/-- The work of a RELOAD_SETTINGS. -/
def OrderWork.isSettings : OrderWork → Bool
  | .settings _ => true
  | _ => false

/-- A row that names an order: the good response, if it is the one the row names; else nothing happens. -/
def State.orderRow (s : State) (due : Bool) (data : List Byte) : Host.Outcome State Fault Refusal :=
  .next (if due then s.accessDone data else s)

/-- BLOCK (R29, R132). -/
def execBlock (L : LineNo) (s : State) : Host.Outcome State Fault Refusal := s.orderRow (s.takesFor .block L) []

/-- UNBLOCK (R30, R132). -/
def execUnblock (L : LineNo) (s : State) : Host.Outcome State Fault Refusal := s.orderRow (s.takesFor .unblock L) []

/-- ATTACH_RECEIVER (R132). -/
def execAttachReceiver (L : LineNo) (s : State) : Host.Outcome State Fault Refusal :=
  s.orderRow (s.takesFor .attachReceiver L) []

/-- DETACH_RECEIVER (R132). -/
def execDetachReceiver (L : LineNo) (s : State) : Host.Outcome State Fault Refusal :=
  s.orderRow (s.takesFor .detachReceiver L) []

/-- RESUME_COLLECTION (R85, R132). -/
def execResumeCollection (L : LineNo) (s : State) : Host.Outcome State Fault Refusal :=
  s.orderRow (s.takesFor .resumeCollection L) []

/-- RELOAD_PROFILES (R133). -/
def execReloadProfiles (data : List Byte) (s : State) : Host.Outcome State Fault Refusal :=
  s.orderRow (s.takes .reloadProfiles || s.reading OrderWork.isProfiles) data

/-- RELOAD_PLAN (R137). -/
def execReloadPlan (data : List Byte) (s : State) : Host.Outcome State Fault Refusal :=
  s.orderRow (s.takes .reloadPlan || s.reading OrderWork.isPlan) data

/-- RELOAD_SETTINGS (R138). -/
def execReloadSettings (data : List Byte) (s : State) : Host.Outcome State Fault Refusal :=
  s.orderRow (s.takes .reloadSettings || s.reading OrderWork.isSettings) data

/-- LINE_TEST (R142). -/
def execLineTest (L : LineNo) (s : State) : Host.Outcome State Fault Refusal := s.orderRow (s.takesFor .lineTest L) []

/-- SELF_CHECK (R154). -/
def execSelfCheck (s : State) : Host.Outcome State Fault Refusal := s.orderRow (s.takes .selfCheck) []

end Sys2Proof.Machine
end

