-- ==== Sys2Proof/Machine/Control.lean ====
section
/-! DEFINITION. The register window and the Run Control's commands: start, stop, freeze, RESUME, the resets, the enables,
AREA_BASE, NUDGE, CAUSE, the ignored writes, what a read returns and the interrupt line (R175 to R183). -/

namespace Sys2Proof.Machine

/-! ## Start and stop -/

/-- RUN written 1: a start in STOPPED, nothing in any other state (R176, R178). -/
def State.runStart (s : State) : State :=
  if s.run.control = .stopped then
    State.settle (s.setRun { s.run with control := .starting, startResult := .none, start := some { step := .settings [] } })
  else s

/-- The access in flight is the executor's TAKEN write. -/
def State.takenInFlight (s : State) : Bool :=
  match s.run.port with
  | .busy a _ => decide (a.unit = .executor)
  | .free => false

/-- The outcome of the executor's access in flight will not be used: its sequence is abandoned (R131, R182). -/
def State.abandonRead (s : State) : State :=
  match s.run.port with
  | .busy a live => s.setRun { s.run with port := .busy a (live && !decide (a.unit = .executor)) }
  | .free => s

/-- The executor at RUN written 0 in RUNNING (R131). -/
def State.stopExecutor (s : State) : State :=
  match s.executor.phase with
  | .lookPriority => (s.atPhase .idle).abandonRead
  | .lookRoutine _ => (s.atPhase .idle).abandonRead
  | .takeRead _ _ => (s.atPhase .idle).abandonRead
  | .takeWrite _ _ => if s.takenInFlight then s else s.atPhase .idle
  | .executing o _ => (s.stopTest.atPhase (.writeResult o ⟨resultStopped, emptyData⟩)).abandonRead
  | _ => s

/-- RUN written 0, by the state it meets (R182). -/
def State.runStop (s : State) : State :=
  match s.run.control with
  | .running =>
    let s1 := s.setExecutor { s.executor with poll := {} }
    (State.setRun s1.stopExecutor { s1.stopExecutor.run with control := .stopping }).settle
  | .frozen => s.enterStopped
  | .memoryError => s.enterStopped
  | .starting => s.failStart .aborted
  | .stopped => s
  | .stopping => s

/-- RUN_START (R178). -/
def execRunStart (s : State) : Host.Outcome State Fault Refusal := .next s.runStart

/-- RUN_STOP (R182). -/
def execRunStop (s : State) : Host.Outcome State Fault Refusal := .next s.runStop

/-! ## Freeze and RESUME -/

/-- FREEZE written (R180): freeze asked, the thaw from FROZEN, and at a free port the freeze or the grants. -/
def State.freeze (s : State) (b : Bool) : State :=
  let s1 := s.setRun { s.run with freezeAsked := b }
  if s.run.control = .frozen ∧ b = false then
    (State.returned (s1.setRun { s1.run with control := .running })).settle
  else s1.settle

/-- The failed access granted again, with the same offset and data (R173, R181). -/
def State.retry (s : State) (a : Access) : State :=
  let s1 := s.occupy a.unit ⟨a.write, a.offset, a.length, a.data⟩
  s1.setRun { s1.run with lastGrantJournal := match a.unit with
    | .journal => true
    | .executor => false
    | .start => s.run.lastGrantJournal }

/-- RESUME written 1: in MEMORY_ERROR the failed access is made again, unless it is under way (R181). -/
def State.resume (s : State) : State :=
  match s.run.control, s.run.port, s.run.failed with
  | .memoryError, .free, some a => s.retry a
  | _, _, _ => s

/-- FREEZE (R180). -/
def execFreeze (b : Bool) (s : State) : Host.Outcome State Fault Refusal := .next (s.freeze b)

/-- RESUME (R181). -/
def execResume (s : State) : Host.Outcome State Fault Refusal := .next s.resume

/-! ## Resets (R183) -/

/-- The state after pin reset; the commands that wait keep waiting. -/
def State.pinReset (s : State) : State := { State.reset with pending := s.pending }

/-- The state after a soft reset: that of a pin reset with the area base kept. -/
def State.softReset (s : State) : State :=
  { State.reset with pending := s.pending, run := { areaBase := s.run.areaBase } }

/-- SOFT_RESET (R183). -/
def execSoftReset (s : State) : Host.Outcome State Fault Refusal := .next s.softReset

/-- PIN_RESET (R183). -/
def execPinReset (s : State) : Host.Outcome State Fault Refusal := .next s.pinReset

/-! ## The other registers -/

/-- A NUDGE reaches the Journal Unit and the Order Executor (R126, R165, R175). -/
def State.nudge (s : State) : State := s.journalPoll.executorPoll

/-- The area base that a value written gives: the low 12 bits taken as 0 (R175). -/
def baseOf (v : Word) : Word := v &&& 0xFFFFF000#32

/-- ENABLES (R176). -/
def execEnables (m : BitVec 6) (s : State) : Host.Outcome State Fault Refusal := .next (s.setRun { s.run with enables := m })

/-- AREA_BASE (R175): taken in STOPPED or FROZEN, ignored in any other state. -/
def execAreaBase (v : Word) (s : State) : Host.Outcome State Fault Refusal :=
  .next (if s.run.control = .stopped ∨ s.run.control = .frozen then s.setRun { s.run with areaBase := baseOf v } else s)

/-- NUDGE (R175): one event whatever value is written. -/
def execNudge (_v : Word) (s : State) : Host.Outcome State Fault Refusal := .next s.nudge.settle

/-- CAUSE (R177): each mark written 1 becomes 0. -/
def execCause (v : Word) (s : State) : Host.Outcome State Fault Refusal :=
  .next (s.setRun { s.run with causes := s.run.causes &&& ~~~(v.setWidth 6) })

/-- IGNORED_REGISTER_WRITE (R175): a write to IDENT or to an offset outside the five registers changes nothing. -/
def execIgnoredRegisterWrite (_offset : Nat) (_v : Word) (s : State) : Host.Outcome State Fault Refusal := .next s

/-! ## What the host reads, and the interrupt line -/

/-- The encoding of a control state. -/
def ControlState.code : ControlState → Nat
  | .stopped => 0
  | .starting => 1
  | .running => 2
  | .frozen => 3
  | .stopping => 4
  | .memoryError => 5

/-- The encoding of a start result. -/
def StartResult.code : StartResult → Nat
  | .none => 0
  | .ok => 1
  | .badLayout => 2
  | .memError => 3
  | .aborted => 4

/-- CONTROL.RUN as it reads (R176). -/
def ControlState.runBit : ControlState → Bool
  | .stopped => false
  | .stopping => false
  | _ => true

/-- CONTROL as it reads (R176). -/
def RunControl.controlWord (r : RunControl) : Word :=
  BitVec.ofNat 32 (bit r.control.runBit + 2 * bit r.freezeAsked + 256 * r.enables.toNat + 65536 * r.control.code +
    1048576 * r.startResult.code)

/-- The value that a read of an offset of the register window returns; a read changes nothing (R175 to R177). -/
def State.readRegister (s : State) (offset : Nat) : Word :=
  if offset = 0x00 then Config.ident
  else if offset = 0x04 then s.run.controlWord
  else if offset = 0x08 then s.run.areaBase
  else if offset = 0x10 then s.run.causes.setWidth 32
  else 0

/-- The interrupt line: asserted while some cause mark and its enable are both 1 (R177). -/
def State.irq (s : State) : Bool := decide (s.run.causes &&& s.run.enables ≠ 0)

/-- The commands that one write of a word to CONTROL makes, in the order of the table of R176 (log entry 7). -/
def controlWrite (w : Word) : List Instr :=
  if w.getLsbD 3 then [.softReset]
  else
    [if w.getLsbD 0 then .runStart else .runStop, .freeze (w.getLsbD 1)] ++
      (if w.getLsbD 2 then [.resume] else []) ++ [.enables (w.extractLsb' 8 6)]

end Sys2Proof.Machine
end

