-- ==== Sys2Proof/Machine/Links.lean ====
section
/-! DEFINITION. The Sense Interface: frames, restoration, delivery, the closing of a period, and the rows SENSE_FRAME
and LINK_RESTORED with the rows that name what one line's sample brings about (R3 to R12, R21 to R28, R49, R72, R73,
R98, R99, R106 to R109). -/

namespace Sys2Proof.Machine

/-- The positions of a frame, in the order of delivery (R10). -/
def positions : List (Fin 8) := [0, 1, 2, 3, 4, 5, 6, 7]

/-- The sample of one position delivered to its line (R10). -/
def State.deliverAt (g : LinkNo) (fr : Frame) (e : Fin 16) (s : State) (p : Fin 8) : State :=
  (s.takeSample (lineAt g p) (fr.sample p e)).1

/-- A frame's eight samples delivered in position order (R10). -/
def State.deliver (s : State) (g : LinkNo) (fr : Frame) (e : Fin 16) : State :=
  positions.foldl (State.deliverAt g fr e) s

/-- The elapsed value of a frame at a link (R5). -/
def elapsedOf (count last : Nat) : Fin 16 := ⟨(count + 16 - last % 16) % 16, Nat.mod_lt _ (by decide)⟩

/-- A valid frame at an UP link (R5). -/
def State.acceptFrame (s : State) (g : LinkNo) (fr : Frame) : State :=
  let l := s.link g
  let e := elapsedOf fr.count l.lastCount
  if e = 0 then s else (s.setLink g { l with lastCount := fr.count, credit := true }).deliver g fr e

/-- The run count that a valid frame gives at a DOWN link (R7). -/
def runCountAfter (l : Link) (count : Nat) : Nat :=
  if l.runCount ≠ 0 ∧ count = (l.lastCount + 1) % 16 then l.runCount + 1 else 1

/-- A valid frame at a DOWN link as the run takes it, before a restoration (R7). -/
def Link.run (l : Link) (count : Nat) : Link :=
  { l with credit := true, runCount := runCountAfter l count, lastCount := count }

/-- The reseed flag asked for at one position's line. -/
def State.reseedAt (g : LinkNo) (s : State) (p : Fin 8) : State := s.askReseed (lineAt g p)

/-- The first sample flag of a link. -/
def State.setFirstSample (s : State) (g : LinkNo) (b : Bool) : State :=
  s.setLink g { s.link g with firstSample := b }

/-- A link restored by the frame that completed its run (R8): UP, LINK_RESTORED if it is to be reported, a reseed at its
eight lines, and the frame delivered with elapsed 0. -/
def State.restoreLink (s : State) (g : LinkNo) (fr : Frame) : State :=
  let l := s.link g
  let s1 := s.setLink g { l with up := true, missing := 0, firstSample := true, reportRestore := false }
  let s2 := if l.reportRestore then s1.stage none (.linkRestored g fr.count l.downSince) else s1
  ((positions.foldl (State.reseedAt g) s2).deliver g fr 0).setFirstSample g false

/-- A valid frame at a DOWN link; the Bool says that it restored the link (R7, R8). -/
def State.runFrame (s : State) (g : LinkNo) (fr : Frame) : State × Bool :=
  let l := (s.link g).run fr.count
  if Config.linkRunLimit ≤ l.runCount then ((s.setLink g l).restoreLink g fr, true) else (s.setLink g l, false)

/-- A frame arrives on a link; the Bool says that it restored the link (R3, R5, R7). -/
def State.senseFrame (s : State) (g : LinkNo) (bs : List Byte) : State × Bool :=
  if s.run.control.live then
    match parseFrame bs with
    | some fr => if (s.link g).up then (s.acceptFrame g fr, false) else s.runFrame g fr
    | none => if (s.link g).up then (s, false) else (s.setLink g { s.link g with runCount := 0 }, false)
  else (s, false)

/-- SENSE_FRAME (R3). -/
def execSenseFrame (g : LinkNo) (bs : List Byte) (s : State) : Host.Outcome State Fault Refusal :=
  .next (s.senseFrame g bs).1.settle

/-- LINK_RESTORED (R8): the frame, if it restores the link. -/
def execLinkRestored (g : LinkNo) (bs : List Byte) (s : State) : Host.Outcome State Fault Refusal :=
  .next (if (s.senseFrame g bs).2 then (s.senseFrame g bs).1.settle else s)

/-! ## The closing of a strobe period (R6) -/

/-- Whether the period that closes loses the link (R6). -/
def Link.losing (l : Link) : Bool := l.up && !l.credit && decide (Config.linkMissingLimit ≤ l.missing + 1)

/-- A link record as the closing of a period leaves it, the loss included (R6). -/
def Link.closed (l : Link) (now : Word) : Link :=
  if l.losing then
    { l with up := false, downSince := now, runCount := 0, missing := 0, reportRestore := true, credit := false }
  else if l.up then { l with missing := if l.credit then 0 else l.missing + 1, credit := false }
  else { l with runCount := if l.credit then l.runCount else 0, credit := false }

/-- The links in ascending number. -/
def allLinks : List LinkNo := [0, 1, 2, 3, 4, 5, 6, 7, 8, 9, 10, 11]

/-- One link closes its period, and its loss stages LINK_LOST (R6, R9). -/
def State.closeLink (s : State) (g : LinkNo) : State :=
  let l := s.link g
  let s1 := s.setLink g (l.closed s.time)
  if l.losing then s1.stage none (.linkLost g l.lastCount) true else s1

/-- Every link closes the period that has ended (R6, log entry 8). -/
def State.closeLinks (s : State) : State := allLinks.foldl State.closeLink s

/-! ## The rows that name an event of one line's sample -/

/-- A sample of one line, if it can arrive and brings the named event about; else nothing happens (log entry 1). -/
def State.sampleRow (s : State) (L : LineNo) (smp : Sample) (due : SampleReport → Bool) :
    Host.Outcome State Fault Refusal :=
  .next (if s.sampleArrives L smp && due (s.takeSample L smp).2 then (s.takeSample L smp).1.settle else s)

/-- SEIZE_CONFIRM (R21). -/
def execSeizeConfirm (L : LineNo) (smp : Sample) (s : State) : Host.Outcome State Fault Refusal :=
  s.sampleRow L smp (fun r => r.sup.seizeConfirm)

/-- RELEASE (R24). -/
def execRelease (L : LineNo) (smp : Sample) (s : State) : Host.Outcome State Fault Refusal :=
  s.sampleRow L smp (fun r => r.sup.release)

/-- PARKED_RELEASE (R28). -/
def execParkedRelease (L : LineNo) (smp : Sample) (s : State) : Host.Outcome State Fault Refusal :=
  s.sampleRow L smp (fun r => r.sup.parkedRelease)

/-- DIGIT_END (R49). -/
def execDigitEnd (L : LineNo) (smp : Sample) (s : State) : Host.Outcome State Fault Refusal :=
  s.sampleRow L smp (fun r => r.dec.ended)

/-- FIRST_DIGIT_TIMEOUT (R99). -/
def execFirstDigitTimeout (L : LineNo) (smp : Sample) (s : State) : Host.Outcome State Fault Refusal :=
  s.sampleRow L smp (fun r => r.coll.firstDigitTimeout)

/-- INTERDIGIT_TIMEOUT (R98). -/
def execInterdigitTimeout (L : LineNo) (smp : Sample) (s : State) : Host.Outcome State Fault Refusal :=
  s.sampleRow L smp (fun r => r.coll.interdigitTimeout)

/-- TONE_WINDOW_EXPIRY (R73). -/
def execToneWindowExpiry (L : LineNo) (smp : Sample) (s : State) : Host.Outcome State Fault Refusal :=
  s.sampleRow L smp (fun r => r.pool.expired)

/-- QUEUE_WAIT_NOTICE (R72). -/
def execQueueWaitNotice (L : LineNo) (smp : Sample) (s : State) : Host.Outcome State Fault Refusal :=
  s.sampleRow L smp (fun r => r.pool.noticed)

/-- CONDITION_CONFIRM (R106): one of the four conditions of the common state machine is raised. -/
def execConditionConfirm (L : LineNo) (c : Condition) (smp : Sample) (s : State) : Host.Outcome State Fault Refusal :=
  s.sampleRow L smp (fun r => decide (c ≠ .powerCross) && decide (r.fault.get c = .raise))

/-- CONDITION_CLEAR (R106): one of the four conditions of the common state machine is cleared. -/
def execConditionClear (L : LineNo) (c : Condition) (smp : Sample) (s : State) : Host.Outcome State Fault Refusal :=
  s.sampleRow L smp (fun r => decide (c ≠ .powerCross) && decide (r.fault.get c = .clear))

/-- POWER_CROSS_RAISE (R108). -/
def execPowerCrossRaise (L : LineNo) (smp : Sample) (s : State) : Host.Outcome State Fault Refusal :=
  s.sampleRow L smp (fun r => decide (r.fault.cross = .raise))

/-- POWER_CROSS_CLEAR (R109). -/
def execPowerCrossClear (L : LineNo) (smp : Sample) (s : State) : Host.Outcome State Fault Refusal :=
  s.sampleRow L smp (fun r => decide (r.fault.cross = .clear))

end Sys2Proof.Machine
end

