-- ==== Sys2Proof/Machine/Receivers.lean ====
section
/-! DEFINITION. The voice highway and tone detection: highway instants, loss and restoration, blocks, filters, energies,
the block decision, the digit states and accepted symbols (R61 to R64, R75 to R81), with the rows HIGHWAY_INSTANT,
HIGHWAY_LOST, HIGHWAY_FRAME, HIGHWAY_RESTORED and BLOCK_END. -/

namespace Sys2Proof.Machine

/-! ## Filters and energies -/

/-- One filter output saturated to 32 bits (R76). -/
def saturate32 (x : Int) : Int := clampInt (-2147483648) 2147483647 x

/-- One step of a filter with coefficient `c` on a sample (R76). -/
def FilterState.step (f : FilterState) (c x : Int) : FilterState :=
  ⟨saturate32 (x + c * f.s1 / 16384 - f.s2), f.s1⟩

/-- The energy of a filter at the end of a block (R77). -/
def FilterState.energy (f : FilterState) (c : Int) : Nat :=
  min (2 ^ 63 - 1) (f.s1 * f.s1 + f.s2 * f.s2 - c * f.s1 / 16384 * f.s2).toNat

/-- The eight filters stepped with a sample (R75). -/
def stepFilters (fs : List FilterState) (x : Int) : List FilterState :=
  List.zipWith (fun c f => f.step c x) Config.coefficients fs

/-- The eight energies (R77). -/
def energies (fs : List FilterState) : List Nat := List.zipWith (fun c f => f.energy c) Config.coefficients fs

/-! ## The block decision (R78) -/

/-- The place and value of the largest of some numbers; of equal ones the first. -/
def largest (xs : List Nat) : Nat × Nat :=
  let m := xs.foldl max 0
  (xs.findIdx (fun x => decide (x = m)), m)

/-- Every number but the one at a place is at most a bound. -/
def othersAtMost (xs : List Nat) (place bound : Nat) : Bool := (xs.eraseIdx place).all (fun x => decide (x ≤ bound))

/-- The symbol of a row and a column (R78). -/
def keySymbol (row column : Nat) : Option Symbol := (Config.keypad[row]?).bind (fun r => r[column]?)

/-- The symbol that a block gives, if it passes every test (R78). -/
def decideBlock (floor : Nat) (rows columns : List Nat) (power : Nat) : Option Symbol :=
  let r := largest rows
  let c := largest columns
  if floor ≤ r.2 ∧ floor ≤ c.2 ∧ c.2 ≤ 4 * r.2 ∧ r.2 ≤ 8 * c.2 ∧ othersAtMost rows r.1 (r.2 / 8) = true ∧
      othersAtMost columns c.1 (c.2 / 8) = true ∧ 48 * power ≤ r.2 + c.2 then
    keySymbol r.1 c.1
  else none

/-! ## Digit states (R79) -/

/-- The next digit state, and the symbol accepted now. -/
def DigitState.step : DigitState → Option Symbol → DigitState × Option Symbol
  | .quiet, some s => (.candidate s, none)
  | .quiet, none => (.quiet, none)
  | .candidate s, some t => if s = t then (.present s, some s) else (.candidate t, none)
  | .candidate _, none => (.quiet, none)
  | .present s, some t => if s = t then (.present s, none) else (.candidate t, none)
  | .present s, none => (.ending s, none)
  | .ending s, some t => if s = t then (.present s, none) else (.candidate t, none)
  | .ending _, none => (.quiet, none)

/-! ## Accepting a symbol (R80) -/

/-- The tone window timer at 0 and the accepted count one up, for a symbol handed on (R80). -/
def Receiver.counted (rx : Receiver) : Receiver :=
  { rx with window := { rx.window with value := 0 }, accepted := min 255 (rx.accepted + 1) }

/-- A receiver that still holds its line after a hand-over counts the symbol (R80). -/
def State.countSymbol (s : State) (r : RxNo) (L : LineNo) : State :=
  if (s.receiver r).line = some L then s.setReceiver r (s.receiver r).counted else s

/-- A tone symbol as the Digit Collector takes it. -/
def toneDigit (r : RxNo) (x : Symbol) : Digit := { symbol := x, source := .tone, receiver := some r }

/-- A symbol accepted by a receiver of a line: handed on, or refused (R80). -/
def State.acceptSymbol (s : State) (r : RxNo) (L : LineNo) (x : Symbol) : State :=
  if x.val < 12 ∨ (s.line L).profile.acceptAbcd = true then (s.takeSymbol L (toneDigit r x)).countSymbol r L
  else s.stage (some L) (.symbolRefused r x)

/-! ## Blocks (R75) -/

/-- A receiver with one more sample of its block (R75). -/
def Receiver.sampled (rx : Receiver) (x : Int) : Receiver :=
  { rx with blockCount := rx.blockCount + 1, filters := stepFilters rx.filters x, power := rx.power + x.natAbs ^ 2 }

/-- The symbol of a full block (R77, R78). -/
def Receiver.decided (rx : Receiver) (floor : Nat) : Option Symbol :=
  decideBlock floor ((energies rx.filters).take 4) ((energies rx.filters).drop 4) rx.power

/-- The end of a block: the decision, the digit state, a new block, and an accepted symbol dealt with (R75, R79, R80). -/
def State.endBlock (s : State) (r : RxNo) (L : LineNo) (rx : Receiver) : State :=
  let d := rx.digit.step (rx.decided s.settings.toneFloor)
  let s1 := s.setReceiver r { rx.clearBlock with digit := d.1 }
  match d.2 with
  | some x => s1.acceptSymbol r L x
  | none => s1

/-- The sample that a frame's slots carry for a line. -/
def slotSample (slots : List (BitVec 16)) (L : LineNo) : Int := (slots.getD L.val 0).toInt

/-- One receiver takes a complete frame, if it is ATTACHED; the receivers that end a block are listed (R75). -/
def State.receiverFrame (slots : List (BitVec 16)) (a : State × List RxNo) (r : RxNo) : State × List RxNo :=
  let rx := a.1.receiver r
  match rx.state, rx.line with
  | .attached, some L =>
    let rx' := rx.sampled (slotSample slots L)
    if Config.blockLength ≤ rx'.blockCount then (a.1.endBlock r L rx', a.2 ++ [r])
    else (a.1.setReceiver r rx', a.2)
  | _, _ => a

/-- The receivers take a complete frame, in ascending number (R75). -/
def State.receiversTake (s : State) (slots : List (BitVec 16)) : State × List RxNo :=
  allRx.foldl (State.receiverFrame slots) (s, [])

/-! ## The highway (R61 to R64) -/

/-- What a frame brought about: a restoration, and the receivers that ended a block. -/
structure FrameReport where
  restored : Bool := false
  ended : List RxNo := []
  deriving DecidableEq, Repr

/-- A complete frame while the highway is LOST: the good run, and at 8 the restoration (R64). -/
def State.lostFrame (s : State) : State × FrameReport :=
  let h := s.highway
  if Config.highwayRunLimit ≤ h.goodRun + 1 then
    let s1 := s.setHighway { h with good := true, missing := 0, goodRun := 0, credit := true, reportRestore := false }
    (if h.reportRestore then s1.stage none (.highwayRestored h.lostSince) else s1, { restored := true })
  else (s.setHighway { h with goodRun := h.goodRun + 1, credit := true }, {})

/-- An incomplete frame: its frame start credits the period, and it ends a run (R61, R64). -/
def Highway.broken (h : Highway) : Highway := { h with credit := true, goodRun := if h.good then h.goodRun else 0 }

/-- A frame start and its slots: complete with 128 slots (R61). -/
def State.highwayFrame (s : State) (slots : List (BitVec 16)) : State × FrameReport :=
  if s.run.control.live then
    if slots.length = 128 then
      if s.highway.good then
        let r := State.receiversTake (s.setHighway { s.highway with credit := true }) slots
        (r.1, { ended := r.2 })
      else s.lostFrame
    else (s.setHighway s.highway.broken, {})
  else (s, {})

/-- An ATTACHED receiver at a highway loss: its partial block discarded and its digit state QUIET (R63). -/
def Receiver.lostHighway (rx : Receiver) : Receiver :=
  if rx.state = .attached then { rx.clearBlock with digit := .quiet } else rx

/-- Whether the period that closes loses the highway (R63). -/
def Highway.losing (h : Highway) : Bool := h.good && !h.credit && decide (Config.highwayMissingLimit ≤ h.missing + 1)

/-- The highway record as the closing of a period leaves it (R61, R63, R64). -/
def Highway.closed (h : Highway) (now : Word) : Highway :=
  if h.losing then
    { h with good := false, lostSince := now, missing := 0, goodRun := 0, reportRestore := true, credit := false }
  else if h.good then { h with missing := if h.credit then 0 else h.missing + 1, credit := false }
  else { h with goodRun := if h.credit then h.goodRun else 0, credit := false }

/-- The number of receivers ATTACHED. -/
def State.attachedCount (s : State) : Nat := (allRx.filter (fun r => decide ((s.receiver r).state = .attached))).length

/-- The state with every receiver replaced by what `f` makes of it. -/
def State.mapReceivers (s : State) (f : Receiver → Receiver) : State :=
  { s with pool := { s.pool with rx := mapEach f s.pool.rx } }

/-- A highway instant; the Bool says that it lost the highway (R61, R63, R64). -/
def State.highwayInstant (s : State) : State × Bool :=
  if s.run.control.live then
    let s1 := s.setHighway (s.highway.closed s.time)
    if s.highway.losing then
      ((s1.mapReceivers Receiver.lostHighway).stage none (.highwayLost s.attachedCount), true)
    else (s1, false)
  else (s, false)

/-! ## The rows -/

/-- HIGHWAY_INSTANT (R61). -/
def execHighwayInstant (s : State) : Host.Outcome State Fault Refusal := .next s.highwayInstant.1.settle

/-- HIGHWAY_LOST (R63): the highway instant, if it loses the highway. -/
def execHighwayLost (s : State) : Host.Outcome State Fault Refusal :=
  .next (if s.highwayInstant.2 then s.highwayInstant.1.settle else s)

/-- HIGHWAY_FRAME (R61). -/
def execHighwayFrame (slots : List (BitVec 16)) (s : State) : Host.Outcome State Fault Refusal :=
  .next (s.highwayFrame slots).1.settle

/-- HIGHWAY_RESTORED (R64): the frame, if it restores the highway. -/
def execHighwayRestored (slots : List (BitVec 16)) (s : State) : Host.Outcome State Fault Refusal :=
  .next (if (s.highwayFrame slots).2.restored then (s.highwayFrame slots).1.settle else s)

/-- BLOCK_END (R75): the frame, if the receiver ends a block at it. -/
def execBlockEnd (r : RxNo) (slots : List (BitVec 16)) (s : State) : Host.Outcome State Fault Refusal :=
  .next (if (s.highwayFrame slots).2.ended.contains r then (s.highwayFrame slots).1.settle else s)

end Sys2Proof.Machine
end

