-- ==== Sys2Proof/Machine/Strobe.lean ====
section
/-! DEFINITION. The strobe instant: cabinet time, the scan strobe, the millisecond timers and the links (R1, R2, R6, R126,
R143, R148, R149, R151, R162), with the rows STROBE_INSTANT, LINK_LOST, BATCH_DELAY_EXPIRY, BATCH_ABSOLUTE_EXPIRY,
ORDER_POLL, TEST_SETTLE_END, STIMULUS_WAIT_END, PULSE_END and DISCHARGE_END, and READING_DONE and LOOP_WATCH_READ. -/

namespace Sys2Proof.Machine

/-! ## The batch timers (R162) -/

/-- A batch timer one millisecond on; it stops at its expiry. -/
def LimitTimer.tick (t : LimitTimer) : LimitTimer :=
  if t.timer.running then
    if t.limit ≤ t.timer.value + 1 then { t with timer := ⟨t.timer.value + 1, false⟩ }
    else { t with timer := ⟨t.timer.value + 1, true⟩ }
  else t

/-- Whether a batch timer expires at the next millisecond. -/
def LimitTimer.expires (t : LimitTimer) : Bool := t.timer.running && decide (t.limit ≤ t.timer.value + 1)

/-- The batch delay timer at a millisecond; its expiry is a trigger. -/
def State.tickDelay (s : State) : State :=
  let s1 := s.setJournal { s.journal with delay := s.journal.delay.tick }
  if s.journal.delay.expires then s1.trigger else s1

/-- The batch absolute timer at a millisecond; its expiry is a trigger. -/
def State.tickAbsolute (s : State) : State :=
  let s1 := s.setJournal { s.journal with absolute := s.journal.absolute.tick }
  if s.journal.absolute.expires then s1.trigger else s1

/-! ## The poll timer (R126) -/

/-- Whether the poll timer expires at the next millisecond. -/
def State.pollExpires (s : State) : Bool :=
  s.executor.poll.running && decide (s.settings.orderPoll ≤ s.executor.poll.value + 1)

/-- The poll timer at a millisecond: at its limit it restarts and reaches both units (R126, R165). -/
def State.tickPoll (s : State) : State :=
  if s.pollExpires then
    State.executorPoll (State.journalPoll (s.setExecutor { s.executor with poll := Timer.started }))
  else if s.executor.poll.running then
    s.setExecutor { s.executor with poll := ⟨s.executor.poll.value + 1, true⟩ }
  else s

/-! ## The strobe instant -/

/-- What a strobe instant brought about. -/
structure StrobeReport where
  delay : Bool := false
  absolute : Bool := false
  poll : Bool := false
  test : TestExpiry := .none
  lost : List LinkNo := []
  deriving DecidableEq, Repr

/-- Cabinet time and the scan strobe (R1, R2). -/
def State.advanceTime (s : State) : State :=
  { s with time := s.time + 1, strobeOut := decide (s.run.control ≠ .stopped) }

/-- The test timer, the poll timer and the links at a strobe instant, in the states in which they run (R6, R126,
R139 Notes). -/
def State.tickLive (s : State) : State × TestExpiry :=
  if s.run.control.live then
    let r := s.tickPoll.tickTest
    (r.1.closeLinks, r.2)
  else (s, .none)

/-- The links that the next strobe instant loses. -/
def State.losingLinks (s : State) : List LinkNo :=
  if s.run.control.live then allLinks.filter (fun g => (s.link g).losing) else []

/-- A strobe instant (R1, R2); the order of what falls together in it is log entry 3. -/
def State.strobeInstant (s : State) : State × StrobeReport :=
  let s2 := s.advanceTime.tickDelay.tickAbsolute
  let r := s2.tickLive
  (r.1, { delay := s.journal.delay.expires, absolute := s.advanceTime.tickDelay.journal.absolute.expires,
          poll := s2.run.control.live && s2.pollExpires, test := r.2, lost := s.losingLinks })

/-- A row that names an event of a strobe instant: the instant, if it brings the event about (log entry 1). -/
def State.strobeRow (s : State) (due : StrobeReport → Bool) : Host.Outcome State Fault Refusal :=
  .next (if due s.strobeInstant.2 then s.strobeInstant.1.settle else s)

/-- STROBE_INSTANT (R2). -/
def execStrobeInstant (s : State) : Host.Outcome State Fault Refusal := .next s.strobeInstant.1.settle

/-- LINK_LOST (R6). -/
def execLinkLost (g : LinkNo) (s : State) : Host.Outcome State Fault Refusal := s.strobeRow (fun r => r.lost.contains g)

/-- BATCH_DELAY_EXPIRY (R162). -/
def execBatchDelayExpiry (s : State) : Host.Outcome State Fault Refusal := s.strobeRow (fun r => r.delay)

/-- BATCH_ABSOLUTE_EXPIRY (R162). -/
def execBatchAbsoluteExpiry (s : State) : Host.Outcome State Fault Refusal := s.strobeRow (fun r => r.absolute)

/-- ORDER_POLL (R126). -/
def execOrderPoll (s : State) : Host.Outcome State Fault Refusal := s.strobeRow (fun r => r.poll)

/-- TEST_SETTLE_END (R143). -/
def execTestSettleEnd (s : State) : Host.Outcome State Fault Refusal := s.strobeRow (fun r => decide (r.test = .settle))

/-- STIMULUS_WAIT_END (R149). -/
def execStimulusWaitEnd (s : State) : Host.Outcome State Fault Refusal :=
  s.strobeRow (fun r => decide (r.test = .stimulusWait))

/-- PULSE_END (R151). -/
def execPulseEnd (s : State) : Host.Outcome State Fault Refusal := s.strobeRow (fun r => decide (r.test = .pulse))

/-- DISCHARGE_END (R148). -/
def execDischargeEnd (s : State) : Host.Outcome State Fault Refusal :=
  s.strobeRow (fun r => decide (r.test = .discharge))

/-- READING_DONE (R140). -/
def execReadingDone (xs : List Int) (s : State) : Host.Outcome State Fault Refusal := .next (s.readingDone xs).settle

/-- LOOP_WATCH_READ (R145). -/
def execLoopWatchRead (v : Int) (s : State) : Host.Outcome State Fault Refusal := .next (s.loopWatch v).settle

end Sys2Proof.Machine
end

