-- ==== Sys2Proof/Machine/Dispatch.lean ====
section
/-! DEFINITION. The dispatch: one arm per command, each one direct call of its meaning. -/

namespace Sys2Proof.Machine

/-- The effect of a command on everything but the queue of waiting commands. -/
def exec (i : Instr) (s : State) : Host.Outcome State Fault Refusal :=
  match i with
  | .strobeInstant => Sys2Proof.Machine.execStrobeInstant s
  | .linkLost g => Sys2Proof.Machine.execLinkLost g s
  | .senseFrame g bytes => Sys2Proof.Machine.execSenseFrame g bytes s
  | .linkRestored g bytes => Sys2Proof.Machine.execLinkRestored g bytes s
  | .seizeConfirm line smp => Sys2Proof.Machine.execSeizeConfirm line smp s
  | .release line smp => Sys2Proof.Machine.execRelease line smp s
  | .parkedRelease line smp => Sys2Proof.Machine.execParkedRelease line smp s
  | .digitEnd line smp => Sys2Proof.Machine.execDigitEnd line smp s
  | .firstDigitTimeout line smp => Sys2Proof.Machine.execFirstDigitTimeout line smp s
  | .interdigitTimeout line smp => Sys2Proof.Machine.execInterdigitTimeout line smp s
  | .highwayInstant => Sys2Proof.Machine.execHighwayInstant s
  | .highwayLost => Sys2Proof.Machine.execHighwayLost s
  | .highwayFrame slots => Sys2Proof.Machine.execHighwayFrame slots s
  | .highwayRestored slots => Sys2Proof.Machine.execHighwayRestored slots s
  | .blockEnd r slots => Sys2Proof.Machine.execBlockEnd r slots s
  | .toneWindowExpiry line smp => Sys2Proof.Machine.execToneWindowExpiry line smp s
  | .queueWaitNotice line smp => Sys2Proof.Machine.execQueueWaitNotice line smp s
  | .conditionConfirm line c smp => Sys2Proof.Machine.execConditionConfirm line c smp s
  | .conditionClear line c smp => Sys2Proof.Machine.execConditionClear line c smp s
  | .powerCrossRaise line smp => Sys2Proof.Machine.execPowerCrossRaise line smp s
  | .powerCrossClear line smp => Sys2Proof.Machine.execPowerCrossClear line smp s
  | .batchDelayExpiry => Sys2Proof.Machine.execBatchDelayExpiry s
  | .batchAbsoluteExpiry => Sys2Proof.Machine.execBatchAbsoluteExpiry s
  | .orderPoll => Sys2Proof.Machine.execOrderPoll s
  | .memoryAccessDone data => Sys2Proof.Machine.execMemoryAccessDone data s
  | .memoryAccessError => Sys2Proof.Machine.execMemoryAccessError s
  | .memoryAccessTimeout => Sys2Proof.Machine.execMemoryAccessTimeout s
  | .block line => Sys2Proof.Machine.execBlock line s
  | .unblock line => Sys2Proof.Machine.execUnblock line s
  | .attachReceiver line => Sys2Proof.Machine.execAttachReceiver line s
  | .detachReceiver line => Sys2Proof.Machine.execDetachReceiver line s
  | .resumeCollection line => Sys2Proof.Machine.execResumeCollection line s
  | .reloadProfiles data => Sys2Proof.Machine.execReloadProfiles data s
  | .reloadPlan data => Sys2Proof.Machine.execReloadPlan data s
  | .reloadSettings data => Sys2Proof.Machine.execReloadSettings data s
  | .lineTest line => Sys2Proof.Machine.execLineTest line s
  | .selfCheck => Sys2Proof.Machine.execSelfCheck s
  | .testSettleEnd => Sys2Proof.Machine.execTestSettleEnd s
  | .readingDone conversions => Sys2Proof.Machine.execReadingDone conversions s
  | .loopWatchRead value => Sys2Proof.Machine.execLoopWatchRead value s
  | .stimulusWaitEnd => Sys2Proof.Machine.execStimulusWaitEnd s
  | .pulseEnd => Sys2Proof.Machine.execPulseEnd s
  | .dischargeEnd => Sys2Proof.Machine.execDischargeEnd s
  | .runStart => Sys2Proof.Machine.execRunStart s
  | .runStop => Sys2Proof.Machine.execRunStop s
  | .freeze value => Sys2Proof.Machine.execFreeze value s
  | .resume => Sys2Proof.Machine.execResume s
  | .softReset => Sys2Proof.Machine.execSoftReset s
  | .enables marks => Sys2Proof.Machine.execEnables marks s
  | .areaBase value => Sys2Proof.Machine.execAreaBase value s
  | .nudge value => Sys2Proof.Machine.execNudge value s
  | .cause value => Sys2Proof.Machine.execCause value s
  | .ignoredRegisterWrite offset value => Sys2Proof.Machine.execIgnoredRegisterWrite offset value s
  | .pinReset => Sys2Proof.Machine.execPinReset s

end Sys2Proof.Machine
end

