-- ==== Sys2Proof/Safety.lean ====
section
/-! DEFINITION. What counts as safe: the bounds and exclusions that the spec's record tables and rules state for the part's
own records (R38, R66 to R68, R80, R90, R111, R158, R159, R170, R172), what a command may leave alone, how a staged record
and a trigger show, and the conditions on one line's sample that the statements use. -/

namespace Sys2Proof

/-! ## Kinds of commands -/

/-- The rows that are a strobe instant or name an event of one. -/
def Instr.isStrobe (c : Instr) : Bool :=
  match c with
  | .strobeInstant | .linkLost _ | .batchDelayExpiry | .batchAbsoluteExpiry | .orderPoll | .testSettleEnd
  | .stimulusWaitEnd | .pulseEnd | .dischargeEnd => true
  | _ => false

/-- The two resets. -/
def Instr.isReset (c : Instr) : Bool :=
  match c with
  | .softReset | .pinReset => true
  | _ => false

/-- The line and the sample of a row that names an event of one line's sample. -/
def Instr.sampleOf (c : Instr) : Option (LineNo × Sample) :=
  match c with
  | .seizeConfirm L x | .release L x | .parkedRelease L x | .digitEnd L x | .firstDigitTimeout L x
  | .interdigitTimeout L x | .toneWindowExpiry L x | .queueWaitNotice L x | .conditionConfirm L _ x
  | .conditionClear L _ x | .powerCrossRaise L x | .powerCrossClear L x => some (L, x)
  | _ => none

end Sys2Proof

namespace Sys2Proof.Machine

/-! ## What a command leaves alone -/

/-- Two states of a line that differ at most in the time of last change. -/
def Line.sameButTime (a b : Line) : Prop := b = { a with marks := { a.marks with lastChange := b.marks.lastChange } }

/-- What one sample of line `L` leaves alone: everything but line `L`, the pool, the Journal Unit's queue, counts, timers and
sequence, and what the port does at the end of a command; another line's time of last change may be set by a
hand-over (R82). -/
structure State.OnlyLine (L : LineNo) (s t : State) : Prop where
  time : t.time = s.time
  strobeOut : t.strobeOut = s.strobeOut
  links : t.links = s.links
  highway : t.highway = s.highway
  plan : t.plan = s.plan
  settings : t.settings = s.settings
  geometry : t.geometry = s.geometry
  executor : t.executor = s.executor
  test : t.test = s.test
  pending : t.pending = s.pending
  areaBase : t.run.areaBase = s.run.areaBase
  enables : t.run.enables = s.run.enables
  startResult : t.run.startResult = s.run.startResult
  freezeAsked : t.run.freezeAsked = s.run.freezeAsked
  failed : t.run.failed = s.run.failed
  nextIndex : t.journal.nextIndex = s.journal.nextIndex
  full : t.journal.full = s.journal.full
  roomLow : t.journal.roomLow = s.journal.roomLow
  queue : s.journal.queue <+: t.journal.queue
  others : ∀ K, K ≠ L → (s.line K).sameButTime (t.line K)

/-! ## Staging and triggers -/

/-- What a record that a command hands to the Journal Unit before any other leaves: it stands next in the staging queue with
its stamp, or, at 32 records, it is counted as dropped with its line in the gap set and the first drop dated
(R158, R159). -/
def State.stagedFirst (s t : State) (now : Word) (line : Option LineNo) (body : RecordBody) : Prop :=
  if s.journal.queue.length < 32 then s.journal.queue ++ [⟨line, now, body⟩] <+: t.journal.queue
  else
    t.journal.queue = s.journal.queue ∧ min 65535 (s.journal.dropped + 1) ≤ t.journal.dropped ∧
      (∀ L, line = some L → LineSet.has t.journal.gapSet L = true) ∧
      (s.journal.dropped = 0 → t.journal.firstDrop = now)

/-- What a batch trigger leaves: with FULL 0 a batch has begun, if the part was RUNNING with no sequence in progress, or is
owed (R161). -/
def State.triggerTaken (s t : State) : Prop :=
  s.journal.full = false →
    if s.run.control = .running ∧ s.journal.work = none then t.journal.work ≠ none else t.journal.batchOwed = true

/-! ## One line's sample -/

/-- The supervision timer as a sample with elapsed value `e` finds it (R11, R18). -/
def Line.timerAt (ln : Line) (e : Nat) : Timer := ln.sup.timer.advance e

/-- A sample at which a line without an open train stays in its call: in ACTIVE, or in OPEN_INTERVAL with the loop open and
the release limit not reached (R22, R24, R25). -/
def Line.staysInCall (ln : Line) (smp : Sample) : Bool :=
  !ln.dec.trainOpen &&
  (decide (ln.sup.hook = .active) ||
    (decide (ln.sup.hook = .openInterval) && decide (ln.filtered smp.i = .noLoop) &&
      !(ln.timerAt smp.elapsed.val).reached (ln.profile.flashMax + 1)))

/-- The hook state of such a line after the Supervision Engine's step (R22). -/
def Line.hookInCall (ln : Line) (smp : Sample) : Hook :=
  if ln.sup.hook = .active ∧ ln.filtered smp.i = .loop then .active else .openInterval

/-- Neither collection timer of a COLLECTING line reaches its limit at a sample (R88). -/
def Line.noTimeout (ln : Line) (e : Nat) : Bool :=
  !decide (ln.coll.state = .collecting) ||
  (!(ln.coll.firstDigit.advance e).reached (1000 * ln.profile.firstDigitTimeout) &&
    !(ln.coll.interdigit.advance e).reached (1000 * ln.profile.interdigitTimeout))

/-- A sample at which an open train ends by the digit-end threshold: after the advance of a RUNNING make timer in ACTIVE, a
break that begins there included, or after a hit has resumed it (R45, R49, R52, R53). -/
def Line.trainEnds (ln : Line) (smp : Sample) : Bool :=
  ln.dec.trainOpen &&
  ((decide (ln.sup.hook = .active) && decide (ln.dec.makeState = .running) &&
      decide (ln.dec.threshold ≤ min 65535 (ln.dec.make + smp.elapsed.val))) ||
    (decide (ln.sup.hook = .openInterval) && decide (ln.filtered smp.i = .loop) &&
      !(ln.timerAt smp.elapsed.val).reached (ln.profile.flashMax + 1) &&
      (decide ((ln.timerAt smp.elapsed.val).value < ln.profile.breakMin) ||
        (decide ((ln.timerAt smp.elapsed.val).value ≤ ln.profile.pulseBreakMax) &&
          decide (ln.profile.dialMode = .tone))) &&
      decide (ln.dec.threshold ≤ min 65535 (ln.dec.make + (ln.timerAt smp.elapsed.val).value))))

/-- A condition of the common state machine is evaluated at a sample, with this presence and this measure, on a line whose
hook state the sample does not change (R110, R112 to R114, R120). -/
def Line.evaluates (ln : Line) (c : Condition) (smp : Sample) (present : Bool) (value : Nat) : Bool :=
  let idle := decide (ln.sup.hook = .onHook) && decide (ln.filtered smp.i = .noLoop)
  let parked := decide (ln.sup.hook = .parked) && decide (ln.filtered smp.i = .loop)
  match c with
  | .powerCross => false
  | .foreignDc =>
    (idle || decide (ln.sup.hook = .blocked)) &&
    decide (value = max (smp.vt - ln.profile.vtNom).natAbs (smp.vr - ln.profile.vrNom).natAbs) &&
    decide (present = decide (ln.profile.dcLimit < value))
  | .acInduced =>
    (idle || decide (ln.sup.hook = .blocked) || parked) &&
    decide (value = a16After ln.fault.a16 (voltageChange smp (ln.conditioned smp)) / 16) &&
    decide (present = decide (ln.profile.acLimit < value))
  | .leakage =>
    idle && decide (ln.raw smp.i = .noLoop) && decide (ln.fault.foreignDc.state = .clear) &&
    decide (ln.fault.acInduced.state = .clear) && decide (value = baselineAfter ln.sup ln.profile.k smp.i / 16) &&
    decide (present = decide (ln.profile.leakLimit < value))
  | .loopShort =>
    (idle || decide (ln.sup.hook = .blocked) || parked) &&
    decide (value = if smp.i = 0 then 0 else 5000 * (smp.vt - smp.vr).natAbs / smp.i.natAbs) &&
    decide (present = (parked && decide (smp.i ≠ 0) && decide (value < ln.profile.shortLimit)))

/-! ## Bounds and exclusions -/

/-- The Journal Unit's bounds: at most 32 staged records and a dropped count of at most 65535 (R158, R159). -/
def Journal.sound (j : Journal) : Bool :=
  decide (j.queue.length ≤ 32) && decide (j.dropped ≤ 65535)

/-- A line's bounds: B in 0..16368, T_on at most 1000, T_off in 1..T_on − 1 (R38), A16 in 0..32736 (R111), a string of at
most 24 symbols, and fewer while COLLECTING (R90), under a profile with F and H in their ranges (R134). -/
def Line.sound (ln : Line) : Bool :=
  decide (ln.sup.b ≤ 16368) && decide (1 ≤ ln.sup.tOff) && decide (ln.sup.tOff < ln.sup.tOn) &&
  decide (ln.sup.tOn ≤ 1000) && decide (ln.fault.a16 ≤ 32736) && decide (ln.coll.string.length ≤ 24) &&
  (!decide (ln.coll.state = .collecting) || decide (ln.coll.string.length < 24)) &&
  decide (40 ≤ ln.profile.f) && decide (5 ≤ ln.profile.h)

/-- A receiver's bounds: a line exactly while ATTACHED (R66, R69, R70), and an accepted count of at most 255 (R80). -/
def Receiver.sound (rx : Receiver) : Bool :=
  decide (rx.state = .attached ↔ rx.line ≠ none) && decide (rx.accepted ≤ 255)

/-- A sound state: every record within its bounds. -/
def State.sound (s : State) : Prop :=
  s.journal.sound = true ∧ (∀ L : LineNo, (s.line L).sound = true) ∧ ∀ r : RxNo, (s.receiver r).sound = true

/-- At most one receiver is attached to a line; a line stands in the wait queue at most once, and never while a receiver is
attached to it (R67, R68). -/
def State.poolSound (s : State) : Prop :=
  (∀ r q : RxNo, ∀ L : LineNo, (s.receiver r).state = .attached → (s.receiver r).line = some L →
    (s.receiver q).state = .attached → (s.receiver q).line = some L → r = q) ∧
  (s.pool.queue.map QueueEntry.line).Nodup ∧
  ∀ r : RxNo, ∀ e ∈ s.pool.queue, (s.receiver r).state = .attached → (s.receiver r).line ≠ some e.line

/-- No receiver stays FREE while a line waits (R68). -/
def State.noIdleReceiver (s : State) : Prop := s.pool.queue ≠ [] → ∀ r : RxNo, (s.receiver r).state ≠ .free

/-- No access is in flight in STOPPED and FROZEN (R172, R180, R182). -/
def State.portQuiet (s : State) : Prop :=
  s.run.control = .stopped ∨ s.run.control = .frozen → s.run.port = .free

/-- A final batch is made in STOPPING only (R170). -/
def State.finalInStopping (s : State) : Prop :=
  ∀ w : Work, s.journal.work = some w → w.kind = .final → s.run.control = .stopping

/-- The changes of control state that the table of spec/10 lists for one command that is not a reset; a start that ends
with freeze asked 1 passes through RUNNING to FROZEN (R178, R180). -/
def ControlState.mayBecome (a b : ControlState) : Bool :=
  match a, b with
  | .stopped, .starting => true
  | .starting, .running => true
  | .starting, .frozen => true
  | .starting, .stopped => true
  | .running, .frozen => true
  | .running, .memoryError => true
  | .running, .stopping => true
  | .frozen, .running => true
  | .frozen, .stopped => true
  | .stopping, .stopped => true
  | .memoryError, .running => true
  | .memoryError, .frozen => true
  | .memoryError, .stopped => true
  | a, b => decide (a = b)

end Sys2Proof.Machine
end

