-- ==== Sys2Proof/Certificates/Slice0/Obligations.lean ====
section
/-! DEFINITION. What is claimed of the L96: one proposition for each statement of OBLIGATIONS.json, stated from the
numbered rules of spec/. A statement that rests on a choice of the model names its log entry in its docstring. -/

open Sys2Proof Sys2Proof.Machine

/-- For every command c, every queue rest and every state s: the step of s with c at the front of its queue and rest
behind it is exec c on s with the queue rest; with no command waiting the step answers s itself. The queue and the
idling are the form of this model (log entry 2), not a rule of the spec. (00_scope.md, How the blocks work together,
95_what_each_step_holds.md) -/
def Obligations.StepRunsFrontCommand : Prop :=
  (∀ (c : Instr) (rest : List Instr) (s : State),
    step (s.withPending (c :: rest)) = exec c (s.withPending rest)) ∧
  ∀ s : State, s.pending = [] → step s = .next s

/-- For every command that answers a next state: the queue of waiting commands is as before; cabinet time and the strobe
output change only at a strobe instant or a reset; the area base changes only by AREA_BASE or a pin reset; the
enables change only by ENABLES or a reset; and a cause mark that is 1 stays 1 but for CAUSE and the resets. (R1, R2,
R175, R176, R177, R183) -/
def Obligations.CommandsKeepWhatOthersOwn : Prop :=
  ∀ (c : Instr) (s t : State), exec c s = .next t →
    t.pending = s.pending ∧
    (c.isStrobe = false → c.isReset = false → t.time = s.time ∧ t.strobeOut = s.strobeOut) ∧
    ((∀ v, c ≠ .areaBase v) → c ≠ .pinReset → t.run.areaBase = s.run.areaBase) ∧
    ((∀ m, c ≠ .enables m) → c.isReset = false → t.run.enables = s.run.enables) ∧
    ((∀ v, c ≠ .cause v) → c.isReset = false →
      ∀ i, s.run.causes.getLsbD i = true → t.run.causes.getLsbD i = true)

/-- For every command other than the two resets and every state in which a final batch stands only in STOPPING (an
invariant stated on its own), the control state after the command is the one before it or one that the table of
control states reaches from it; a start that ends with freeze asked 1 passes through RUNNING to FROZEN in one
command. (R176, R178, R179, R180, R181, R182, 10_the_exchange_area_and_run_control.md, Control states) -/
def Obligations.ControlStateMovesByItsTable : Prop :=
  ∀ (c : Instr) (s t : State), s.finalInStopping → c.isReset = false → exec c s = .next t →
    s.run.control.mayBecome t.run.control = true

/-- For every state in which no access is in flight in STOPPED or FROZEN and a final batch stands only in STOPPING: if
the step answers a next state, the same two things hold there. (R170, R172, R180, R182, R183) -/
def Obligations.PortQuietAndFinalBatchKept : Prop :=
  ∀ s t : State, s.portQuiet → s.finalInStopping → step s = .next t → t.portQuiet ∧ t.finalInStopping

/-- For every state in which the staging queue holds at most 32 records, the dropped count is at most 65535, every line
has B in 0..16368, T_off in 1..T_on - 1, T_on at most 1000, A16 at most 32736, a string of at most 24 symbols and
fewer while COLLECTING, F at least 40 and H at least 5, and every receiver has a line exactly while ATTACHED and an
accepted count of at most 255: if the step answers a next state, all of it holds there. (R38, R66, R69, R70, R80,
R90, R111, R158, R159) -/
def Obligations.SoundStateKept : Prop :=
  ∀ s t : State, s.sound → step s = .next t → t.sound

/-- For every state in which at most one receiver is attached to any line, no line stands twice in the wait queue and no
queued line has a receiver: if the step answers a next state, the same holds there. (R67, R68, R70, R74) -/
def Obligations.PoolExclusivityKept : Prop :=
  ∀ s t : State, s.poolSound → step s = .next t → t.poolSound

/-- For every state in which no receiver is FREE while the wait queue holds a line: if the step answers a next state,
the same holds there. (R67, R68, R70, R74) -/
def Obligations.NoReceiverFreeWhileALineWaits : Prop :=
  ∀ s t : State, s.noIdleReceiver → step s = .next t → t.noIdleReceiver

/-- The state after pin reset is within every bound, has each line at one receiver or place at most, no receiver FREE
while a line waits, no access in flight, and no final batch. The values of F and H after reset are those of log
entry 5. (R66, R158, R172, R183) -/
def Obligations.ResetStateIsSound : Prop :=
  State.reset.sound ∧ State.reset.poolSound ∧ State.reset.noIdleReceiver ∧ State.reset.portQuiet ∧
    State.reset.finalInStopping

/-- In every state PIN_RESET answers the state after reset, and SOFT_RESET the same with the area base kept; the waiting
commands are not part of the block. In that state cabinet time is 0, the part is STOPPED with start result NONE, the
enables, the causes and freeze asked are 0, the port is FREE, no access is failed, every link is DOWN, every line
NOT_EQUIPPED with T_on 1000, T_off 999 and the latches NO_LOOP, every receiver FREE with enabled count 8, the queues
empty, the executor, the Test Engine and the Journal Unit idle and the converter GOOD. The copies of profiles,
settings and geometry take the values of log entry 5, a choice of the model. (R183, R4, R14, R17, R43, R62, R66,
R83, R104, R123, R139, R157) -/
def Obligations.ResetsGiveTheResetState : Prop :=
  (∀ s : State, exec .pinReset s = .next { State.reset with pending := s.pending }) ∧
  (∀ s : State, exec .softReset s =
    .next { State.reset with pending := s.pending, run := { State.reset.run with areaBase := s.run.areaBase } }) ∧
  State.reset.time = 0 ∧ State.reset.strobeOut = false ∧
  State.reset.run = { control := .stopped, startResult := .none, freezeAsked := false, enables := 0, causes := 0,
                      areaBase := 0, port := .free, lastGrantJournal := false, failed := none, start := none } ∧
  (∀ g : LinkNo, State.reset.link g =
    { up := false, lastCount := 0, runCount := 0, missing := 0, credit := false, reportRestore := false,
      downSince := 0, firstSample := false }) ∧
  (∀ L : LineNo,
    (State.reset.line L).cond =
      { pa := .noLoop, qa := .noLoop, pb := .noLoop, qb := .noLoop, reseed := false, vtPrev := 0, vrPrev := 0 } ∧
    (State.reset.line L).sup =
      { hook := .notEquipped, timer := ⟨0, false⟩, breakStart := 0, b := 0, seeded := false, tOn := 1000, tOff := 999,
        guardReturn := .onHook, testReturn := .onHook, startMark := false } ∧
    (State.reset.line L).dec =
      { trainOpen := false, count := 0, overrun := false, make := 0, makeState := .stopped, firstBreak := 0, p1 := 0,
        share := 0, threshold := 1000 } ∧
    (State.reset.line L).coll =
      { state := .idle, string := [], firstDigit := ⟨0, false⟩, interdigit := ⟨0, false⟩, resumed := false } ∧
    (∀ c : Condition, (State.reset.line L).fault.get c = ⟨.clear, ⟨0, false⟩, .sense, 0⟩) ∧
    (State.reset.line L).fault.a16 = 0 ∧ (State.reset.line L).fault.run = 0 ∧
    (State.reset.line L).marks.lastChange = 0) ∧
  State.reset.highway = ⟨false, 0, 0, false, false, 0⟩ ∧
  State.reset.pool.enabledCount = 8 ∧ State.reset.pool.queue = [] ∧
  (∀ r : RxNo, State.reset.receiver r =
    { state := .free, line := none, retire := false, blockCount := 0, filters := List.replicate 8 ⟨0, 0⟩, power := 0,
      digit := .quiet, window := ⟨0, false⟩, accepted := 0 }) ∧
  State.reset.plan = ⟨List.replicate 100 none, List.replicate 16 none⟩ ∧
  State.reset.executor = ⟨.idle, 0, 0, .priority, 0, ⟨0, false⟩, false⟩ ∧
  State.reset.test.phase = .idle ∧ State.reset.test.connection = none ∧ State.reset.test.stimulus = .none ∧
  State.reset.test.charged = false ∧ State.reset.test.rangeLow = false ∧ State.reset.test.suspect = false ∧
  State.reset.journal =
    { queue := [], nextIndex := 0, work := none, batchOwed := false, recheckOwed := false, delay := ⟨⟨0, false⟩, 0⟩,
      absolute := ⟨⟨0, false⟩, 0⟩, dropped := 0, gapSet := 0, firstDrop := 0, full := false, roomLow := false, dirty := 0 }

/-- For SEIZE_CONFIRM, RELEASE, PARKED_RELEASE, DIGIT_END, FIRST_DIGIT_TIMEOUT, INTERDIGIT_TIMEOUT, TONE_WINDOW_EXPIRY,
QUEUE_WAIT_NOTICE, CONDITION_CONFIRM, CONDITION_CLEAR, POWER_CROSS_RAISE and POWER_CROSS_CLEAR: cabinet time, the
links, the highway, the plan, the settings, the geometry, the executor, the Test Engine, the area base, the enables,
the start result, freeze asked, the failed access, the journal next index, FULL and ROOM_LOW are as before; the
staged records stay in place and are only added to; and every other line is as before but for its time of last
change. That such a row is one sample of the line, sent without its frame, is the choice of log entries 1 and 22.
(R10, R12, R82, R158) -/
def Obligations.SampleRowsTouchOneLine : Prop :=
  ∀ (c : Instr) (s t : State) (L : LineNo) (smp : Sample), c.sampleOf = some (L, smp) → exec c s = .next t →
    s.OnlyLine L t

/-- For the twelve rows of one line's sample: a receiver that is ATTACHED to another line keeps its whole record. That
such a row is one sample of the line, sent without its frame, is the choice of log entries 1 and 22. (R67, R68, R70) -/
def Obligations.SampleKeepsReceiversOfOthers : Prop :=
  ∀ (c : Instr) (s t : State) (L K : LineNo) (smp : Sample) (r : RxNo), c.sampleOf = some (L, smp) → exec c s = .next t →
    K ≠ L → (s.receiver r).state = .attached → (s.receiver r).line = some K → t.receiver r = s.receiver r

/-- In every state STROBE_INSTANT answers a next state whose cabinet time is one more modulo 2^32, whose strobe output
is emitted exactly if the part is not STOPPED, and whose highway record, pool, plan, settings, geometry, area base,
enables and waiting commands are as before. (R1, R2) -/
def Obligations.StrobeInstantAdvancesTime : Prop :=
  ∀ (s : State),
    ∃ t, exec .strobeInstant s = .next t ∧
      t.time = s.time + 1 ∧
      t.strobeOut = decide (s.run.control ≠ .stopped) ∧
      t.highway = s.highway ∧
      t.pool = s.pool ∧
      t.plan = s.plan ∧
      t.settings = s.settings ∧
      t.geometry = s.geometry ∧
      t.run.areaBase = s.run.areaBase ∧
      t.run.enables = s.run.enables ∧
      t.pending = s.pending

/-- In RUNNING, FROZEN and MEMORY_ERROR, STROBE_INSTANT leaves each link record so: UP with credit: missing count 0; UP
without: missing count one more, or at 3 DOWN with down since the cabinet time of the instant, run count and missing
count 0 and report restore YES; DOWN without credit: run count 0; the period credit NONE in every case, and all else
as before. In the other control states every link record is as before. (R4, R6) -/
def Obligations.StrobeInstantClosesLinkPeriods : Prop :=
  ∀ (s : State) (g : LinkNo),
    ∃ t, exec .strobeInstant s = .next t ∧
      (t.link g =
        if s.run.control = .running ∨ s.run.control = .frozen ∨ s.run.control = .memoryError then
          if (s.link g).up then
            if (s.link g).credit then { s.link g with missing := 0, credit := false }
            else if (s.link g).missing + 1 < 3 then
              { s.link g with missing := (s.link g).missing + 1, credit := false }
            else
              { s.link g with
                up := false, downSince := s.time + 1, runCount := 0, missing := 0, reportRestore := true, credit := false }
          else if (s.link g).credit then { s.link g with credit := false }
          else { s.link g with runCount := 0, credit := false }
        else s.link g)

/-- For an UP link whose missing count stands at 2 or more and whose period had no accepted frame, in RUNNING, FROZEN or
MEMORY_ERROR, with room for twelve records: LINK_LOST answers a next state with the link DOWN, down since the
cabinet time of the instant and report restore YES; the record LINK_LOST with the link number, the last count, no
line and that time is staged; and its trigger is taken. With 32 records staged the record is counted as dropped and
no line is added to the gap set. That a row naming an event is the occasion that brings the event about is the
reading of log entry 1. (R6, R9, R161) -/
def Obligations.LinkLossIsStagedUrgent : Prop :=
  (∀ (s : State) (g : LinkNo),
    s.run.control.live = true →
    (s.link g).up = true →
    (s.link g).credit = false →
    2 ≤ (s.link g).missing →
    s.journal.queue.length ≤ 20 →
    ∃ t, exec (.linkLost g) s = .next t ∧
      (t.link g).up = false ∧
      (t.link g).downSince = s.time + 1 ∧
      (t.link g).runCount = 0 ∧
      (t.link g).missing = 0 ∧
      (t.link g).reportRestore = true ∧
      (t.link g).lastCount = (s.link g).lastCount ∧
      t.time = s.time + 1 ∧
      (⟨none, s.time + 1, .linkLost g (s.link g).lastCount⟩ : Record) ∈ t.journal.queue ∧
      s.triggerTaken t) ∧
  (∀ (s : State) (g : LinkNo),
    s.run.control.live = true →
    (s.link g).up = true →
    (s.link g).credit = false →
    2 ≤ (s.link g).missing →
    32 ≤ s.journal.queue.length →
    ∃ t, exec (.linkLost g) s = .next t ∧
      (t.link g).up = false ∧
      t.journal.queue = s.journal.queue ∧
      min 65535 (s.journal.dropped + 1) ≤ t.journal.dropped ∧
      t.journal.gapSet = s.journal.gapSet ∧
      (s.journal.dropped = 0 → t.journal.firstDrop = s.time + 1))

/-- In RUNNING, FROZEN and MEMORY_ERROR, for a valid frame at an UP link: with (frame count - last count) mod 16 equal
to 0 every link, every line and the staged records are as before; otherwise the last count becomes the frame count,
the period credit becomes SET, every other link is as before, every line of another group is as before but for its
time of last change, and the sample of each line of the group carries that difference as its elapsed value: both
collection timers of an ACTIVE line that is COLLECTING, without open train and with neither timer at its limit,
advance by it if they run, to at most 65535. An invalid frame at an UP link, and any frame in another control state,
changes no link and no line. (R3, R5, R10, R11, R12, R88) -/
def Obligations.FrameAtUpLink : Prop :=
  (∀ (s : State) (g : LinkNo) (bs : List Byte) (fr : Frame),
    s.run.control.live = true →
    (s.link g).up = true →
    parseFrame bs = some fr →
    ∃ t, exec (.senseFrame g bs) s = .next t ∧
      (if ((fr.count : Int) - (s.link g).lastCount) % 16 = 0 then
          t.links = s.links ∧ t.lines = s.lines ∧ t.journal.queue = s.journal.queue
        else
          (∀ k, t.link k = if k = g then { s.link g with lastCount := fr.count, credit := true } else s.link k) ∧
          ∀ K, linkOf K ≠ g → (s.line K).sameButTime (t.line K))) ∧
  (∀ (s : State) (g : LinkNo) (bs : List Byte),
    s.run.control.live = false ∨ ((s.link g).up = true ∧ parseFrame bs = none) →
    ∃ t, exec (.senseFrame g bs) s = .next t ∧
      t.links = s.links ∧
      t.lines = s.lines ∧
      t.journal.queue = s.journal.queue) ∧
  (∀ (s : State) (g : LinkNo) (bs : List Byte) (fr : Frame) (p : Fin 8) (e : Nat),
    s.run.control.live = true →
    (s.link g).up = true →
    parseFrame bs = some fr →
    (e : Int) = ((fr.count : Int) - (s.link g).lastCount) % 16 →
    e ≠ 0 →
    (s.line (lineAt g p)).sup.hook = .active →
    (s.line (lineAt g p)).dec.trainOpen = false →
    (s.line (lineAt g p)).coll.state = .collecting →
    (s.line (lineAt g p)).noTimeout e = true →
    (fr.triples.getD p.val ⟨0, 0, 0⟩).vt.natAbs ≤ 300 →
    (fr.triples.getD p.val ⟨0, 0, 0⟩).vr.natAbs ≤ 300 →
    ∃ t, exec (.senseFrame g bs) s = .next t ∧
      ((t.line (lineAt g p)).coll.firstDigit =
          (if (s.line (lineAt g p)).coll.firstDigit.running then
            ⟨min 65535 ((s.line (lineAt g p)).coll.firstDigit.value + e), true⟩
          else (s.line (lineAt g p)).coll.firstDigit)) ∧
      ((t.line (lineAt g p)).coll.interdigit =
          (if (s.line (lineAt g p)).coll.interdigit.running then
            ⟨min 65535 ((s.line (lineAt g p)).coll.interdigit.value + e), true⟩
          else (s.line (lineAt g p)).coll.interdigit)))

/-- For an accepted frame and each position p: the line 8g + p, if its hook state is NOT_EQUIPPED or TESTING, is as
before but for its time of last change; otherwise its four latches are those of the filter stepped, or reseeded,
with the raw loop state of its own triple under the thresholds it had before the frame, and its previous voltages
are those of the triple. (R10, R13, R14, R15, R16) -/
def Obligations.AcceptedFrameStepsEachLine : Prop :=
  ∀ (s : State) (g : LinkNo) (bs : List Byte) (fr : Frame) (p : Fin 8),
    s.run.control.live = true →
    (s.link g).up = true →
    parseFrame bs = some fr →
    ((fr.count : Int) - (s.link g).lastCount) % 16 ≠ 0 →
    ∃ t, exec (.senseFrame g bs) s = .next t ∧
      (let ln := s.line (lineAt g p)
       let x := fr.triples.getD p.val ⟨0, 0, 0⟩
       if ln.sup.hook = .notEquipped ∨ ln.sup.hook = .testing then ln.sameButTime (t.line (lineAt g p))
       else
         { (t.line (lineAt g p)).cond with reseed := false } =
           { ln.latched x.i with reseed := false, vtPrev := x.vt, vrPrev := x.vr })

/-- In RUNNING, FROZEN and MEMORY_ERROR: an invalid frame at a DOWN link sets the run count to 0; a valid one that does
not complete the run sets the period credit, makes the run count one more if it is not 0 and the frame count follows
the last count, and 1 otherwise, and sets the last count; no line changes and nothing is staged. (R3, R7) -/
def Obligations.FrameAtDownLink : Prop :=
  (∀ (s : State) (g : LinkNo) (bs : List Byte),
    s.run.control.live = true →
    (s.link g).up = false →
    parseFrame bs = none →
    ∃ t, exec (.senseFrame g bs) s = .next t ∧
      t.link g = { s.link g with runCount := 0 } ∧
      t.lines = s.lines ∧
      t.journal.queue = s.journal.queue) ∧
  (∀ (s : State) (g : LinkNo) (bs : List Byte) (fr : Frame),
    s.run.control.live = true →
    (s.link g).up = false →
    parseFrame bs = some fr →
    (s.link g).runCount < 3 ∨ fr.count ≠ ((s.link g).lastCount + 1) % 16 →
    ∃ t, exec (.senseFrame g bs) s = .next t ∧
      (t.link g = { s.link g with
          credit := true
          runCount :=
            if (s.link g).runCount ≠ 0 ∧ fr.count = ((s.link g).lastCount + 1) % 16 then (s.link g).runCount + 1 else 1
          lastCount := fr.count }) ∧
      t.lines = s.lines ∧
      t.journal.queue = s.journal.queue)

/-- In RUNNING, FROZEN and MEMORY_ERROR, for a DOWN link with run count 3 or more and a valid frame whose count follows
the last count: LINK_RESTORED answers a next state with the link UP, missing count 0, the last count that of the
frame, first sample NO and report restore NO; if report restore was YES, LINK_RESTORED with the link number, the
frame count and the down since time is staged before any other record; each of the eight lines that takes samples
has all four latches at the raw loop state of its triple; and no supervision timer of them has advanced. That a row
naming an event is the occasion that brings the event about is the reading of log entry 1. (R7, R8, R9, R15) -/
def Obligations.LinkRestoredByFourthFrame : Prop :=
  ∀ (s : State) (g : LinkNo) (bs : List Byte) (fr : Frame) (p : Fin 8),
    s.run.control.live = true →
    (s.link g).up = false →
    parseFrame bs = some fr →
    3 ≤ (s.link g).runCount →
    fr.count = ((s.link g).lastCount + 1) % 16 →
    ∃ t, exec (.linkRestored g bs) s = .next t ∧
      (t.link g).up = true ∧
      (t.link g).missing = 0 ∧
      (t.link g).lastCount = fr.count ∧
      (t.link g).firstSample = false ∧
      (t.link g).reportRestore = false ∧
      (t.link g).downSince = (s.link g).downSince ∧
      ((s.link g).reportRestore = true →
          s.stagedFirst t s.time none (.linkRestored g fr.count (s.link g).downSince)) ∧
      ((s.line (lineAt g p)).sup.hook ≠ .notEquipped → (s.line (lineAt g p)).sup.hook ≠ .testing →
          (t.line (lineAt g p)).cond.pa = (s.line (lineAt g p)).raw (fr.triples.getD p.val ⟨0, 0, 0⟩).i ∧
          (t.line (lineAt g p)).cond.qa = (t.line (lineAt g p)).cond.pa ∧
          (t.line (lineAt g p)).cond.pb = (t.line (lineAt g p)).cond.pa ∧
          (t.line (lineAt g p)).cond.qb = (t.line (lineAt g p)).cond.pa) ∧
      (t.line (lineAt g p)).sup.timer.value ≤ (s.line (lineAt g p)).sup.timer.value

/-- For a sample that arrives at a line in SEIZE_PENDING with filtered LOOP at which the running timer reaches
seize_confirm, the sample not high, no train open and the line without receiver or queue place: SEIZE_CONFIRM
answers a next state with the line ACTIVE, its timer stopped, its start mark NO, FOUND_AT_START set if the start
mark was YES, a COLLECTING collection with an empty string and the first-digit timer from 0, resumed NO; OFF_HOOK
with |I|, the start mark and the loop-resistance estimate is staged first (or dropped at 32 records); with dial_mode
TONE or BOTH the lowest FREE receiver is attached to the line, or the line stands in the queue; in PULSE it has
neither. That such a row is one sample of the line, sent without its frame, is the choice of log entries 1 and 22.
That FOUND_AT_START is set also where OFF_HOOK is dropped is the reading of log entry 16: R42 sets it when OFF_HOOK
is staged. (R21, R26, R42, R67, R84) -/
def Obligations.ConfirmedSeizureOpensTheCall : Prop :=
  ∀ (s : State) (L : LineNo) (smp : Sample),
    s.sampleArrives L smp = true →
    (s.line L).sup.hook = .seizePending →
    (s.line L).filtered smp.i = .loop →
    (s.line L).sup.timer.running = true →
    (s.line L).profile.seizeConfirm ≤ min 65535 ((s.line L).sup.timer.value + smp.elapsed.val) →
    (s.line L).dec.trainOpen = false →
    s.served L = false →
    sampleHigh smp = false →
    ∃ t, exec (.seizeConfirm L smp) s = .next t ∧
      (t.line L).sup.hook = .active ∧
      (t.line L).sup.timer.running = false ∧
      (t.line L).sup.startMark = false ∧
      (t.line L).marks.foundAtStart = ((s.line L).marks.foundAtStart || (s.line L).sup.startMark) ∧
      (t.line L).coll.state = .collecting ∧
      (t.line L).coll.string = [] ∧
      (t.line L).coll.firstDigit = ⟨0, true⟩ ∧
      (t.line L).coll.interdigit.running = false ∧
      (t.line L).coll.resumed = false ∧
      (s.stagedFirst t s.time (some L)
          (.offHook smp.i.natAbs (s.line L).sup.startMark
            (if smp.i = 0 then none else some (5000 * (smp.vt - smp.vr).natAbs / smp.i.natAbs)))) ∧
      ((s.line L).profile.dialMode = .pulse → t.pool = s.pool) ∧
      ((s.line L).profile.dialMode ≠ .pulse → t.served L = true) ∧
      ((s.line L).profile.dialMode ≠ .pulse → ∀ r, s.freeReceiver = some r →
          (t.receiver r).state = .attached ∧ (t.receiver r).line = some L ∧ t.pool.queue = s.pool.queue) ∧
      ((s.line L).profile.dialMode ≠ .pulse → s.freeReceiver = none →
          t.pool.rx = s.pool.rx ∧ t.pool.queue = s.pool.queue ++ [⟨L, 0, false⟩])

/-- For a sample that arrives at a line in OPEN_INTERVAL, or PARKED_OPEN, whose running timer reaches flash_max + 1, the
sample not high: RELEASE, or PARKED_RELEASE, answers a next state with the line ON_HOOK, its timer stopped, no
train, an IDLE empty collection with its timers stopped; ON_HOOK with reason RELEASE, FROM_PARKED exactly from
PARKED_OPEN, the count of uncompleted digits and the break start is staged first; and, where each line holds one
receiver or place at most, the line holds none. That such a row is one sample of the line, sent without its frame,
is the choice of log entries 1 and 22. (R11, R23, R24, R28, R41) -/
def Obligations.ReleaseEndsTheCall : Prop :=
  ∀ (s : State) (L : LineNo) (smp : Sample) (parked : Bool),
    s.sampleArrives L smp = true →
    ((s.line L).sup.hook = (if parked then .parkedOpen else .openInterval)) →
    (s.line L).sup.timer.running = true →
    (s.line L).profile.flashMax + 1 ≤ min 65535 ((s.line L).sup.timer.value + smp.elapsed.val) →
    sampleHigh smp = false →
    ∃ t, exec (if parked then .parkedRelease L smp else .release L smp) s = .next t ∧
      (t.line L).sup.hook = .onHook ∧
      (t.line L).sup.timer.running = false ∧
      (t.line L).dec.trainOpen = false ∧
      (t.line L).coll.state = .idle ∧
      (t.line L).coll.string = [] ∧
      (t.line L).coll.firstDigit.running = false ∧
      (t.line L).coll.interdigit.running = false ∧
      (t.line L).coll.resumed = false ∧
      (s.stagedFirst t s.time (some L)
          (.onHook .release parked
            (if (s.line L).coll.state = .collecting then (s.line L).coll.string.length else 0) (s.line L).sup.breakStart)) ∧
      (s.poolSound → t.served L = false)

/-- For a sample that arrives at a line in ACTIVE or, at the end of a hit, in OPEN_INTERVAL, at which an open train
reaches the digit-end threshold, the sample not high: DIGIT_END answers a next state with the train gone. If the
train is overrun, DIAL_ERROR(PULSE_OVERRUN) with count, P1 and share is staged first. If not, the digit count mod
10, source PULSE, with DISTORTED and SPEED set from the share and P1 of a measured train, is appended to a
COLLECTING string, or staged first as LATE_DIGIT, with the same flags, P1 and share, in DONE, where the string
stays. That such a row is one sample of the line, sent without its frame, is the choice of log entries 1 and 22.
That the resumed bit of LATE_DIGIT is 0 is the choice of log entry 33. (R45, R49, R50, R51, R54, R89, R90, R100) -/
def Obligations.TrainEndHandsOnTheDigit : Prop :=
  ∀ (s : State) (L : LineNo) (smp : Sample),
    s.sampleArrives L smp = true →
    (s.line L).trainEnds smp = true →
    sampleHigh smp = false →
    ∃ t, exec (.digitEnd L smp) s = .next t ∧
      (t.line L).dec.trainOpen = false ∧
      (t.line L).dec.count = 0 ∧
      (t.line L).dec.p1 = 0 ∧
      (t.line L).dec.makeState = .stopped ∧
      ((s.line L).dec.overrun = true →
          s.stagedFirst t s.time (some L)
            (.pulseOverrun ⟨(s.line L).dec.count, true, (s.line L).dec.p1, (s.line L).dec.share, 0⟩)) ∧
      ((s.line L).dec.overrun = false → (s.line L).coll.state = .collecting →
          (t.line L).coll.string = (s.line L).coll.string ++
            [⟨⟨(s.line L).dec.count % 10, by omega⟩, .pulse,
              decide (2 ≤ (s.line L).dec.count) &&
                (decide ((s.line L).dec.share < (s.line L).profile.ratioMin) ||
                  decide ((s.line L).profile.ratioMax < (s.line L).dec.share)),
              decide (2 ≤ (s.line L).dec.count) &&
                (decide ((s.line L).dec.p1 < 70) || decide (150 < (s.line L).dec.p1))⟩]) ∧
      ((s.line L).dec.overrun = false → (s.line L).coll.state = .done →
          (t.line L).coll.string = (s.line L).coll.string ∧
          s.stagedFirst t s.time (some L)
            (.lateDigit ⟨⟨(s.line L).dec.count % 10, by omega⟩, .pulse,
              decide (2 ≤ (s.line L).dec.count) &&
                (decide ((s.line L).dec.share < (s.line L).profile.ratioMin) ||
                  decide ((s.line L).profile.ratioMax < (s.line L).dec.share)),
              decide (2 ≤ (s.line L).dec.count) &&
                (decide ((s.line L).dec.p1 < 70) || decide (150 < (s.line L).dec.p1)),
              false, (s.line L).dec.p1, (s.line L).dec.share, none⟩))

/-- For a sample, not high, at which a line without open train stays in its call and the running first-digit timer of
its COLLECTING collection reaches 1000 times first_digit_timeout: FIRST_DIGIT_TIMEOUT answers a next state with the
collection DONE, its string as it was and both timers stopped; NO_DIGITS with the resumed flag is staged first; a
line left in ACTIVE with resumed NO is PARKED, with PARK staged next; any other stays in the hook state the step
left; and, where each line holds one receiver or place at most, the line holds none. That such a row is one sample
of the line, sent without its frame, is the choice of log entries 1 and 22. (R27, R70, R99) -/
def Obligations.FirstDigitTimeoutParksTheLine : Prop :=
  ∀ (s : State) (L : LineNo) (smp : Sample),
    s.sampleArrives L smp = true →
    (s.line L).staysInCall smp = true →
    sampleHigh smp = false →
    (s.line L).coll.state = .collecting →
    (s.line L).coll.firstDigit.running = true →
    1000 * (s.line L).profile.firstDigitTimeout ≤ min 65535 ((s.line L).coll.firstDigit.value + smp.elapsed.val) →
    ∃ t, exec (.firstDigitTimeout L smp) s = .next t ∧
      (t.line L).coll.state = .done ∧
      (t.line L).coll.string = (s.line L).coll.string ∧
      (t.line L).coll.firstDigit.running = false ∧
      (t.line L).coll.interdigit.running = false ∧
      s.stagedFirst t s.time (some L) (.noDigits (s.line L).coll.resumed) ∧
      ((t.line L).sup.hook =
          (if (s.line L).hookInCall smp = .active ∧ (s.line L).coll.resumed = false then .parked
            else (s.line L).hookInCall smp)) ∧
      ((s.line L).hookInCall smp = .active → (s.line L).coll.resumed = false → s.journal.queue.length + 2 ≤ 32 →
          s.journal.queue ++ [⟨some L, s.time, .noDigits false⟩, ⟨some L, s.time, .park⟩] <+: t.journal.queue) ∧
      (s.poolSound → t.served L = false)

/-- For a sample, not high, at which a line without open train stays in its call and the running interdigit timer of its
COLLECTING collection reaches 1000 times interdigit_timeout, its first-digit timer stopped: INTERDIGIT_TIMEOUT
answers a next state with the collection DONE, its string kept and both timers stopped; NUMBER with the string,
reason TIMEOUT, no early index and the resumed flag is staged first; the hook state is the one the step left; and,
where each line holds one receiver or place at most, the line holds none. That such a row is one sample of the line,
sent without its frame, is the choice of log entries 1 and 22. (R88, R94, R97, R98) -/
def Obligations.InterdigitTimeoutCompletesTheNumber : Prop :=
  ∀ (s : State) (L : LineNo) (smp : Sample),
    s.sampleArrives L smp = true →
    (s.line L).staysInCall smp = true →
    sampleHigh smp = false →
    (s.line L).coll.state = .collecting →
    (s.line L).coll.firstDigit.running = false →
    (s.line L).coll.interdigit.running = true →
    1000 * (s.line L).profile.interdigitTimeout ≤ min 65535 ((s.line L).coll.interdigit.value + smp.elapsed.val) →
    ∃ t, exec (.interdigitTimeout L smp) s = .next t ∧
      (t.line L).coll.state = .done ∧
      (t.line L).coll.string = (s.line L).coll.string ∧
      (t.line L).coll.firstDigit.running = false ∧
      (t.line L).coll.interdigit.running = false ∧
      s.stagedFirst t s.time (some L) (.number (s.line L).coll.string .timeout none (s.line L).coll.resumed) ∧
      (t.line L).sup.hook = (s.line L).hookInCall smp ∧
      (s.poolSound → t.served L = false)

/-- For a sample, not high, at which a line without open train stays in its call, no collection timer expires and the
running window of its receiver reaches 1000 times tone_window: TONE_WINDOW_EXPIRY answers a next state in which
RX_WINDOW with the receiver and its accepted count is staged first; a retiring receiver is DISABLED with no line and
retire NO; any other is ATTACHED to the head of the wait queue, with a window from 0, accepted count 0, a quiet
digit state and no partial block, and that line leaves the queue; with an empty queue it is FREE with no line. That
such a row is one sample of the line, sent without its frame, is the choice of log entries 1 and 22. (R68, R69, R70,
R73) -/
def Obligations.ToneWindowExpiryHandsTheReceiverOver : Prop :=
  ∀ (s : State) (L : LineNo) (smp : Sample) (r : RxNo),
    s.sampleArrives L smp = true →
    (s.line L).staysInCall smp = true →
    sampleHigh smp = false →
    (s.line L).noTimeout smp.elapsed.val = true →
    s.receiverOf L = some r →
    (s.receiver r).window.running = true →
    1000 * (s.line L).profile.toneWindow ≤ min 65535 ((s.receiver r).window.value + smp.elapsed.val) →
    ∃ t, exec (.toneWindowExpiry L smp) s = .next t ∧
      s.stagedFirst t s.time (some L) (.rxWindow r (s.receiver r).accepted) ∧
      (if (s.receiver r).retire then
          (t.receiver r).state = .disabled ∧ (t.receiver r).line = none ∧ (t.receiver r).retire = false ∧
            t.pool.queue = s.pool.queue
        else
          match s.pool.queue with
          | [] => (t.receiver r).state = .free ∧ (t.receiver r).line = none ∧ t.pool.queue = []
          | e :: q =>
            (t.receiver r).state = .attached ∧ (t.receiver r).line = some e.line ∧ t.pool.queue = q ∧
              (t.receiver r).window = ⟨0, true⟩ ∧ (t.receiver r).accepted = 0 ∧ (t.receiver r).digit = .quiet ∧
              (t.receiver r).blockCount = 0 ∧ (t.receiver r).power = 0) ∧
      (∀ q, q ≠ r → t.receiver q = s.receiver q) ∧
      (t.line L).sup.hook = (s.line L).hookInCall smp

/-- For a sample, not high, at which a line without open train stays in its call, no collection timer expires, and the
line, without a receiver, stands in the queue with no notice given and a wait that reaches 1000 times
queue_wait_notice: QUEUE_WAIT_NOTICE answers a next state in which RX_DELAY with the position from 1 at the head and
the queue length is staged first, and the entry has its wait advanced and the notice given; the rest of the queue
and every receiver are as before. Of a line without a receiver whose entry has the notice given, no sample stages a
second RX_DELAY: neither does QUEUE_WAIT_NOTICE, which then changes nothing, nor any other row of the line's sample.
That such a row is one sample of the line, sent without its frame, is the choice of log entries 1 and 22. (R72) -/
def Obligations.QueueWaitNoticeOncePerWait : Prop :=
  (∀ (s : State) (L : LineNo) (smp : Sample) (q : QueueEntry),
    s.sampleArrives L smp = true →
    (s.line L).staysInCall smp = true →
    sampleHigh smp = false →
    (s.line L).noTimeout smp.elapsed.val = true →
    s.receiverOf L = none →
    (s.pool.queue.find? (fun x => decide (x.line = L)) = some q) →
    q.noticed = false →
    1000 * (s.line L).profile.queueWaitNotice ≤ min 65535 (q.wait + smp.elapsed.val) →
    ∃ t, exec (.queueWaitNotice L smp) s = .next t ∧
      (s.stagedFirst t s.time (some L)
          (.rxDelay (s.pool.queue.findIdx (fun x => decide (x.line = L)) + 1) s.pool.queue.length)) ∧
      (t.pool.queue = s.pool.queue.map
          (fun x => if x.line = L then ⟨L, min 65535 (q.wait + smp.elapsed.val), true⟩ else x)) ∧
      t.pool.rx = s.pool.rx ∧
      (t.line L).sup.hook = (s.line L).hookInCall smp) ∧
  (∀ (s : State) (c : Instr) (L : LineNo) (smp : Sample) (q : QueueEntry),
    c.sampleOf = some (L, smp) →
    s.receiverOf L = none →
    (s.pool.queue.find? (fun x => decide (x.line = L)) = some q) →
    q.noticed = true →
    ∃ t, exec c s = .next t ∧
      ((t.journal.queue.drop s.journal.queue.length).all (fun x => match x.body with | .rxDelay _ _ => false | _ => true) = true) ∧
      (c = .queueWaitNotice L smp → t = s))

/-- For each of FOREIGN_DC, AC_INDUCED, LEAKAGE and LOOP_SHORT, a sample that arrives, at which the condition is
evaluated and present on a line whose hook state the sample does not change, and room for the records of the sample:
if the condition is SUSPECT and its running timer reaches 100 times dc_confirm, CONDITION_CONFIRM answers a next
state with the condition RAISED, source SENSE, raised at the cabinet time, its timer stopped, and FAULT_RAISED with
the measure of the sample and the hook state among the staged records. That such a row is one sample of the line,
sent without its frame, is the choice of log entries 1 and 22. (R106, R110, R112, R113, R114, R120) -/
def Obligations.ConditionConfirmRaises : Prop :=
  ∀ (s : State) (L : LineNo) (c : Condition) (smp : Sample) (value : Nat),
    s.sampleArrives L smp = true →
    (s.line L).evaluates c smp true value = true →
    ((s.line L).fault.get c).state = .suspect →
    ((s.line L).fault.get c).timer.running = true →
    100 * (s.line L).profile.dcConfirm ≤ min 65535 (((s.line L).fault.get c).timer.value + smp.elapsed.val) →
    s.journal.queue.length ≤ 16 →
    ∃ t, exec (.conditionConfirm L c smp) s = .next t ∧
      ((t.line L).fault.get c).state = .raised ∧
      ((t.line L).fault.get c).source = .sense ∧
      ((t.line L).fault.get c).raisedAt = s.time ∧
      ((t.line L).fault.get c).timer.running = false ∧
      (⟨some L, s.time, .faultRaised c .sense .none (s.line L).sup.hook value⟩ : Record) ∈ t.journal.queue

/-- For each of FOREIGN_DC, AC_INDUCED, LEAKAGE and LOOP_SHORT, a sample that arrives, at which the condition is
evaluated and absent on a line whose hook state the sample does not change, and room for the records of the sample:
if the condition is CLEARING and its running timer reaches 100 times clear_time, CONDITION_CLEAR answers a next
state with the condition CLEAR, source SENSE, its timer stopped, and FAULT_CLEARED with the source and the raised at
time it held before among the staged records. That such a row is one sample of the line, sent without its frame, is
the choice of log entries 1 and 22. (R106, R110, R112, R113, R114, R121) -/
def Obligations.ConditionClearStagesFaultCleared : Prop :=
  ∀ (s : State) (L : LineNo) (c : Condition) (smp : Sample) (value : Nat),
    s.sampleArrives L smp = true →
    (s.line L).evaluates c smp false value = true →
    ((s.line L).fault.get c).state = .clearing →
    ((s.line L).fault.get c).timer.running = true →
    100 * (s.line L).profile.clearTime ≤ min 65535 (((s.line L).fault.get c).timer.value + smp.elapsed.val) →
    s.journal.queue.length ≤ 16 →
    ∃ t, exec (.conditionClear L c smp) s = .next t ∧
      ((t.line L).fault.get c).state = .clear ∧
      ((t.line L).fault.get c).source = .sense ∧
      ((t.line L).fault.get c).timer.running = false ∧
      (⟨some L, s.time, .faultCleared c ((s.line L).fault.get c).source ((s.line L).fault.get c).raisedAt⟩ : Record) ∈
          t.journal.queue

/-- For a high sample that arrives at a line in any hook state that takes samples but GUARD, with POWER_CROSS SUSPECT
and a run count of 2 or more: POWER_CROSS_RAISE answers a next state with POWER_CROSS RAISED, source SENSE, raised
at the cabinet time; the line in GUARD, with guard return BLOCKED exactly if it was BLOCKED, no train, an IDLE empty
collection, its timer stopped and its start mark NO; with room for the records of the sample, FAULT_RAISED with the
larger magnitude is staged and its trigger taken; and, where each line holds one receiver or place at most, the line
holds none. That such a row is one sample of the line, sent without its frame, is the choice of log entries 1 and
22. (R23, R32, R107, R108, R120, R161) -/
def Obligations.PowerCrossRaiseGuardsTheLine : Prop :=
  ∀ (s : State) (L : LineNo) (smp : Sample),
    s.sampleArrives L smp = true →
    sampleHigh smp = true →
    (s.line L).fault.powerCross.state = .suspect →
    2 ≤ (s.line L).fault.run →
    (s.line L).sup.hook ≠ .notEquipped →
    (s.line L).sup.hook ≠ .testing →
    (s.line L).sup.hook ≠ .guard →
    ∃ t, exec (.powerCrossRaise L smp) s = .next t ∧
      (t.line L).fault.powerCross.state = .raised ∧
      (t.line L).fault.powerCross.source = .sense ∧
      (t.line L).fault.powerCross.raisedAt = s.time ∧
      (t.line L).fault.run = 3 ∧
      (t.line L).sup.hook = .guard ∧
      ((t.line L).sup.guardReturn = (if (s.line L).sup.hook = .blocked then .blocked else .onHook)) ∧
      (t.line L).dec.trainOpen = false ∧
      (t.line L).coll.state = .idle ∧
      (t.line L).coll.string = [] ∧
      (t.line L).sup.timer.running = false ∧
      (t.line L).sup.startMark = false ∧
      (s.journal.queue.length ≤ 16 →
          (∃ hook, (⟨some L, s.time, .faultRaised .powerCross .sense .none hook (max smp.vt.natAbs smp.vr.natAbs)⟩ : Record) ∈
            t.journal.queue) ∧ s.triggerTaken t) ∧
      (s.poolSound → t.served L = false)

/-- For a low sample that arrives at a line in GUARD with POWER_CROSS CLEARING, whose running timer reaches 2000:
POWER_CROSS_CLEAR answers a next state with POWER_CROSS CLEAR, source SENSE and run count 0; the line in its guard
return state, the guard return ON_HOOK, the reseed flag set, B 0, not seeded, and the thresholds of B 0; and, with
room for the records of the sample, FAULT_CLEARED with the source and the raised at time held before is staged. That
such a row is one sample of the line, sent without its frame, is the choice of log entries 1 and 22. (R33, R38, R39,
R107, R109, R121) -/
def Obligations.PowerCrossClearEndsTheGuard : Prop :=
  ∀ (s : State) (L : LineNo) (smp : Sample),
    s.sampleArrives L smp = true →
    sampleHigh smp = false →
    (s.line L).sup.hook = .guard →
    (s.line L).fault.powerCross.state = .clearing →
    (s.line L).fault.powerCross.timer.running = true →
    2000 ≤ min 65535 ((s.line L).fault.powerCross.timer.value + smp.elapsed.val) →
    ∃ t, exec (.powerCrossClear L smp) s = .next t ∧
      (t.line L).fault.powerCross.state = .clear ∧
      (t.line L).fault.powerCross.source = .sense ∧
      (t.line L).fault.run = 0 ∧
      ((t.line L).sup.hook = (match (s.line L).sup.guardReturn with | .onHook => .onHook | .blocked => .blocked)) ∧
      (t.line L).sup.guardReturn = .onHook ∧
      (t.line L).cond.reseed = true ∧
      (t.line L).sup.b = 0 ∧
      (t.line L).sup.seeded = false ∧
      (t.line L).sup.tOn = min 1000 (max (s.line L).profile.f (s.line L).profile.m) ∧
      (t.line L).sup.tOff = max 1 ((t.line L).sup.tOn - (s.line L).profile.h) ∧
      (s.journal.queue.length ≤ 16 →
          (⟨some L, s.time, .faultCleared .powerCross (s.line L).fault.powerCross.source
            (s.line L).fault.powerCross.raisedAt⟩ : Record) ∈ t.journal.queue)

/-- In RUNNING, FROZEN and MEMORY_ERROR, HIGHWAY_INSTANT leaves the highway record so: GOOD with credit: missing count
0; GOOD without: missing count one more, or at 2 LOST with lost since the cabinet time, both counts 0 and report
restore YES; LOST without credit: good run 0; the period credit NONE in every case. In the other control states it
is as before. No line and no queue place changes. (R61, R63, R64) -/
def Obligations.HighwayInstantClosesThePeriod : Prop :=
  ∀ (s : State),
    ∃ t, exec .highwayInstant s = .next t ∧
      (t.highway =
        if s.run.control = .running ∨ s.run.control = .frozen ∨ s.run.control = .memoryError then
          if s.highway.good then
            if s.highway.credit then { s.highway with missing := 0, credit := false }
            else if s.highway.missing + 1 < 2 then { s.highway with missing := s.highway.missing + 1, credit := false }
            else { good := false, missing := 0, goodRun := 0, credit := false, reportRestore := true, lostSince := s.time }
          else if s.highway.credit then { s.highway with credit := false }
          else { s.highway with goodRun := 0, credit := false }
        else s.highway) ∧
      t.lines = s.lines ∧
      t.pool.queue = s.pool.queue ∧
      t.time = s.time

/-- In RUNNING, FROZEN and MEMORY_ERROR, for a GOOD highway with missing count 1 or more and a period without credit:
HIGHWAY_LOST answers a next state with the highway LOST since the cabinet time; every ATTACHED receiver stays
attached with block count, filters and block power 0 and digit state QUIET, every other receiver is as before; and
HIGHWAY_LOST with the number of ATTACHED receivers and no line is staged first. That a row naming an event is the
occasion that brings the event about is the reading of log entry 1. (R63, R65, R75) -/
def Obligations.HighwayLossDiscardsPartialBlocks : Prop :=
  ∀ (s : State),
    s.run.control.live = true →
    s.highway.good = true →
    s.highway.credit = false →
    1 ≤ s.highway.missing →
    ∃ t, exec .highwayLost s = .next t ∧
      t.highway.good = false ∧
      t.highway.lostSince = s.time ∧
      t.highway.missing = 0 ∧
      t.highway.goodRun = 0 ∧
      t.highway.reportRestore = true ∧
      (∀ r, t.receiver r =
          if (s.receiver r).state = .attached then
            { s.receiver r with blockCount := 0, filters := List.replicate 8 ⟨0, 0⟩, power := 0, digit := .quiet }
          else s.receiver r) ∧
      (s.stagedFirst t s.time none
          (.highwayLost ((List.finRange 8).countP (fun r => decide ((s.receiver r).state = .attached))))) ∧
      t.lines = s.lines

/-- In RUNNING, FROZEN and MEMORY_ERROR: a frame of 128 slots on a GOOD highway, at which no ATTACHED receiver fills its
block, gives each receiver ATTACHED to a line the sample of that line's slot: block count one more, the square added
to the block power, and each filter stepped with its coefficient, exactly and saturated to 32 bits; the others are
as before. On a LOST highway with good run below 7 it makes the good run one more. A frame of another number of
slots only credits the period, and on a LOST highway sets the good run to 0. In the other control states a frame
changes neither the highway nor the pool. The clauses for frames take a highway frame as one event, the choice of
log entry 14. (R61, R64, R75, R76) -/
def Obligations.HighwayFrameFeedsTheReceivers : Prop :=
  (∀ (s : State) (slots : List (BitVec 16)) (r : RxNo),
    s.run.control.live = true →
    slots.length = 128 →
    s.highway.good = true →
    (∀ q, (s.receiver q).state = .attached → (s.receiver q).blockCount + 1 < 160) →
    ∃ t, exec (.highwayFrame slots) s = .next t ∧
      t.highway = { s.highway with credit := true } ∧
      t.lines = s.lines ∧
      t.journal.queue = s.journal.queue ∧
      (match (s.receiver r).state, (s.receiver r).line with
        | .attached, some L =>
          t.receiver r = { s.receiver r with
            blockCount := (s.receiver r).blockCount + 1
            power := (s.receiver r).power + (slots.getD L.val 0).toInt.natAbs ^ 2
            filters := List.zipWith
              (fun c f =>
                ⟨max (-2147483648) (min 2147483647 ((slots.getD L.val 0).toInt + c * f.s1 / 2 ^ 14 - f.s2)), f.s1⟩)
              [27980, 26956, 25701, 24219, 19073, 16325, 13085, 9315] (s.receiver r).filters }
        | _, _ => t.receiver r = s.receiver r)) ∧
  (∀ (s : State) (slots : List (BitVec 16)),
    s.run.control.live = true →
    slots.length = 128 →
    s.highway.good = false →
    s.highway.goodRun < 7 →
    ∃ t, exec (.highwayFrame slots) s = .next t ∧
      t.highway = { s.highway with goodRun := s.highway.goodRun + 1, credit := true } ∧
      t.pool = s.pool ∧
      t.lines = s.lines) ∧
  (∀ (s : State) (slots : List (BitVec 16)),
    s.run.control.live = true →
    slots.length ≠ 128 →
    ∃ t, exec (.highwayFrame slots) s = .next t ∧
      (t.highway = { s.highway with credit := true, goodRun := if s.highway.good then s.highway.goodRun else 0 }) ∧
      t.pool = s.pool ∧
      t.lines = s.lines) ∧
  (∀ (s : State) (slots : List (BitVec 16)),
    s.run.control.live = false →
    ∃ t, exec (.highwayFrame slots) s = .next t ∧
      t.highway = s.highway ∧
      t.pool = s.pool ∧
      t.lines = s.lines)

/-- In RUNNING, FROZEN and MEMORY_ERROR, for a LOST highway with good run 7 or more and a frame of 128 slots:
HIGHWAY_RESTORED answers a next state with the highway GOOD, both counts 0 and report restore NO; the pool and the
lines are as before; and HIGHWAY_RESTORED with the lost since time and no line is staged exactly if report restore
was YES. That a row naming an event is the occasion that brings the event about is the reading of log entry 1. (R64,
R65) -/
def Obligations.HighwayRestoredByEighthFrame : Prop :=
  ∀ (s : State) (slots : List (BitVec 16)),
    s.run.control.live = true →
    slots.length = 128 →
    s.highway.good = false →
    7 ≤ s.highway.goodRun →
    ∃ t, exec (.highwayRestored slots) s = .next t ∧
      t.highway = { s.highway with good := true, missing := 0, goodRun := 0, credit := true, reportRestore := false } ∧
      t.pool = s.pool ∧
      t.lines = s.lines ∧
      (s.highway.reportRestore = true → s.stagedFirst t s.time none (.highwayRestored s.highway.lostSince)) ∧
      (s.highway.reportRestore = false → t.journal.queue = s.journal.queue)

/-- In RUNNING, FROZEN and MEMORY_ERROR, for a frame of 128 slots on a GOOD highway at which receiver r, ATTACHED to
line L, fills its block and no other receiver does: BLOCK_END answers a next state. With d the digit state stepped
with the decision of the block: if no symbol is accepted, the receiver holds that state and a new empty block, and
no line changes. A refused symbol A..D stages DIAL_ERROR(SYMBOL_REFUSED) first and leaves window and accepted count.
A symbol handed on is appended, source TONE, to a COLLECTING string; in DONE it is staged first as LATE_DIGIT; in
DONE and IDLE the window restarts and the accepted count rises to at most 255. That a row naming an event is the
occasion that brings the event about is the reading of log entry 1. That the resumed bit of LATE_DIGIT is 0 is the
choice of log entry 33. (R75, R77, R80, R89, R100) -/
def Obligations.BlockEndStepsTheDigitState : Prop :=
  ∀ (s : State) (slots : List (BitVec 16)) (r : RxNo) (L : LineNo),
    s.run.control.live = true →
    slots.length = 128 →
    s.highway.good = true →
    (s.receiver r).state = .attached →
    (s.receiver r).line = some L →
    159 ≤ (s.receiver r).blockCount →
    (∀ q, q ≠ r → (s.receiver q).state = .attached → (s.receiver q).blockCount + 1 < 160) →
    ∃ t, exec (.blockEnd r slots) s = .next t ∧
      (let d := (s.receiver r).digit.step (((s.receiver r).sampled (slotSample slots L)).decided s.settings.toneFloor)
       (d.2 = none →
          t.receiver r = { s.receiver r with
            blockCount := 0, filters := List.replicate 8 ⟨0, 0⟩, power := 0, digit := d.1 } ∧
          t.lines = s.lines ∧ t.journal.queue = s.journal.queue) ∧
       ∀ x, d.2 = some x →
          if x.val < 12 ∨ (s.line L).profile.acceptAbcd = true then
            ((s.line L).coll.state = .collecting →
              (t.line L).coll.string = (s.line L).coll.string ++ [⟨x, .tone, false, false⟩]) ∧
            ((s.line L).coll.state = .done →
              s.stagedFirst t s.time (some L) (.lateDigit ⟨x, .tone, false, false, false, 0, 0, some r⟩)) ∧
            ((s.line L).coll.state ≠ .collecting →
              (t.receiver r).accepted = min 255 ((s.receiver r).accepted + 1) ∧
              (t.receiver r).window = { (s.receiver r).window with value := 0 } ∧ (t.receiver r).digit = .present x)
          else
            s.stagedFirst t s.time (some L) (.symbolRefused r x) ∧ (t.receiver r).window = (s.receiver r).window ∧
            (t.receiver r).accepted = (s.receiver r).accepted ∧ (t.receiver r).digit = .present x)

/-- One step with raw loop state r: if r equals PA, QA becomes r and otherwise keeps its value, PA becomes r; if the new
QA equals PB, QB becomes it and otherwise keeps its value, PB becomes the new QA. A raw state that lasts one sample
does not reach QB; a new raw state that holds for three samples appears at QB on the third and not before. After
reset and at entry to RUNNING all four latches hold NO_LOOP. (R14) -/
def Obligations.AgreementFilterStep : Prop :=
  (∀ (c : Conditioner) (r : LoopState),
    (c.filter r).pa = r ∧
    (c.filter r).qa = (if r = c.pa then r else c.qa) ∧
    (c.filter r).pb = (c.filter r).qa ∧
    (c.filter r).qb = (if (c.filter r).qa = c.pb then (c.filter r).qa else c.qb) ∧
    (c.filter r).reseed = c.reseed ∧ (c.filter r).vtPrev = c.vtPrev ∧ (c.filter r).vrPrev = c.vrPrev) ∧
  (∀ (c : Conditioner) (x y : LoopState), c.pa = x → c.qa = x → c.pb = x → c.qb = x → x ≠ y →
    (c.filter y).qb = x ∧ ((c.filter y).filter x).qb = x ∧ (((c.filter y).filter x).filter x).qb = x ∧
    ((((c.filter y).filter x).filter x).filter x).qb = x ∧
    ((c.filter y).filter y).qb = x ∧ (((c.filter y).filter y).filter y).qb = y ∧
    (((c.filter y).filter y).filter x).qb = y ∧ ((((c.filter y).filter y).filter x).filter x).qb = y ∧
    (((((c.filter y).filter y).filter x).filter x).filter x).qb = x) ∧
  (∀ L : LineNo, (State.reset.line L).cond.pa = .noLoop ∧ (State.reset.line L).cond.qa = .noLoop ∧
    (State.reset.line L).cond.pb = .noLoop ∧ (State.reset.line L).cond.qb = .noLoop) ∧
  ∀ ln : Line, ln.running.cond.pa = .noLoop ∧ ln.running.cond.qa = .noLoop ∧ ln.running.cond.pb = .noLoop ∧
    ln.running.cond.qb = .noLoop

/-- For four row and four column energies, a block power and a tone_floor of at least 1: the block gives symbol x
exactly if some row i and column j hold largest energies Er and Ec with Er and Ec at least tone_floor, Ec at most 4
Er, Er at most 8 Ec, every other row at most floor(Er/8), every other column at most floor(Ec/8), Er + Ec at least
48 P, and x is the key at row i and column j. (R78) -/
def Obligations.BlockDecisionGivesTheKey : Prop :=
  ∀ (floor power : Nat) (rows columns : List Nat) (x : Symbol), 1 ≤ floor → rows.length = 4 → columns.length = 4 →
    (decideBlock floor rows columns power = some x ↔
      ∃ i j : Fin 4,
        let er := rows.getD i.val 0
        let ec := columns.getD j.val 0
        (∀ k : Fin 4, rows.getD k.val 0 ≤ er) ∧ (∀ k : Fin 4, columns.getD k.val 0 ≤ ec) ∧
        floor ≤ er ∧ floor ≤ ec ∧ ec ≤ 4 * er ∧ er ≤ 8 * ec ∧
        (∀ k : Fin 4, k ≠ i → rows.getD k.val 0 ≤ er / 8) ∧ (∀ k : Fin 4, k ≠ j → columns.getD k.val 0 ≤ ec / 8) ∧
        48 * power ≤ er + ec ∧
        x = (([[1, 2, 3, 12], [4, 5, 6, 13], [7, 8, 9, 14], [10, 0, 11, 15]] : List (List Symbol)).getD i.val []).getD
          j.val 0)

/-- The eleven rows of the table of R79, with the symbol accepted at the row CANDIDATE(s), s, and at no other; the
accepted symbol is never given again while its key fills further blocks or one NONE block falls between. (R79) -/
def Obligations.DigitStatesByTheirTable : Prop :=
  ∀ a b : Symbol, a ≠ b →
    DigitState.quiet.step (some a) = (.candidate a, none) ∧ DigitState.quiet.step none = (.quiet, none) ∧
    (DigitState.candidate a).step (some a) = (.present a, some a) ∧
    (DigitState.candidate a).step (some b) = (.candidate b, none) ∧
    (DigitState.candidate a).step none = (.quiet, none) ∧
    (DigitState.present a).step (some a) = (.present a, none) ∧
    (DigitState.present a).step none = (.ending a, none) ∧
    (DigitState.present a).step (some b) = (.candidate b, none) ∧
    (DigitState.ending a).step none = (.quiet, none) ∧ (DigitState.ending a).step (some a) = (.present a, none) ∧
    (DigitState.ending a).step (some b) = (.candidate b, none)

/-- For every record read: the profile applied has flash_min, flash_max, break_min, G_max and ratio_max as the five
repairs give them from the clamped values, every other field as clamped, and so break_min < pulse_break_max <
flash_min, flash_min at most flash_max, G_min at most G_max and ratio_min at most ratio_max; flash_min is at most
400 and at most 121 where it was repaired, break_min is at least 10 and at least 39 where it was repaired; a record
with a repaired field counts as a record with a changed field. (R135) -/
def Obligations.ProfileRepairsKeepTheBreakClasses : Prop :=
  ∀ bs : List Byte,
    let c := clampedProfile bs
    let p := parseProfile bs
    p = { c with
      flashMin := if c.flashMin ≤ c.pulseBreakMax then c.pulseBreakMax + 1 else c.flashMin
      flashMax := max c.flashMax p.flashMin
      breakMin := if c.pulseBreakMax ≤ c.breakMin then c.pulseBreakMax - 1 else c.breakMin
      gMax := max c.gMax c.gMin
      ratioMax := max c.ratioMax c.ratioMin } ∧
    p.breakMin < p.pulseBreakMax ∧ p.pulseBreakMax < p.flashMin ∧ p.flashMin ≤ p.flashMax ∧ p.gMin ≤ p.gMax ∧
    p.ratioMin ≤ p.ratioMax ∧
    80 ≤ p.flashMin ∧ p.flashMin ≤ 400 ∧ (p.flashMin ≠ c.flashMin → p.flashMin ≤ 121) ∧
    10 ≤ p.breakMin ∧ p.breakMin ≤ 40 ∧ (p.breakMin ≠ c.breakMin → 39 ≤ p.breakMin) ∧
    p.flashMax ≤ 1000 ∧ p.gMax ≤ 1000 ∧ (p.gMax ≠ c.gMax → 200 < p.gMax) ∧
    p.ratioMax ≤ 80 ∧ (p.ratioMax ≠ c.ratioMax → 60 < p.ratioMax) ∧
    (p ≠ c → 0 < profileClamped bs)

/-- In every state: if the running batch delay timer reaches its limit at the next millisecond, BATCH_DELAY_EXPIRY
answers a next state with cabinet time one more and the trigger taken: with FULL 0 a batch begun in RUNNING with no
sequence in progress, and batch owed in every other case. If the running batch absolute timer does so and the delay
timer does not, BATCH_ABSOLUTE_EXPIRY answers one in the same way. Where no link falls due to be lost, the expired
timer is one further and stopped, and the staged records are as before. That a row naming an event is the occasion
that brings the event about is the reading of log entry 1. That the delay timer is taken before the absolute one
within a millisecond is the choice of log entry 3. That a stopped timer keeps its value is the choice of log entry
12. (R161, R162) -/
def Obligations.BatchTimerExpiryIsATrigger : Prop :=
  (∀ (s : State),
    s.journal.delay.timer.running = true →
    s.journal.delay.limit ≤ s.journal.delay.timer.value + 1 →
    ∃ t, exec .batchDelayExpiry s = .next t ∧
      t.time = s.time + 1 ∧
      s.triggerTaken t ∧
      ((∀ g, (s.link g).losing = false) →
          t.journal.delay = ⟨⟨s.journal.delay.timer.value + 1, false⟩, s.journal.delay.limit⟩ ∧
            t.journal.queue = s.journal.queue)) ∧
  (∀ (s : State),
    s.journal.delay.expires = false →
    s.journal.absolute.timer.running = true →
    s.journal.absolute.limit ≤ s.journal.absolute.timer.value + 1 →
    ∃ t, exec .batchAbsoluteExpiry s = .next t ∧
      t.time = s.time + 1 ∧
      s.triggerTaken t ∧
      ((∀ g, (s.link g).losing = false) →
          t.journal.absolute = ⟨⟨s.journal.absolute.timer.value + 1, false⟩, s.journal.absolute.limit⟩ ∧
            t.journal.queue = s.journal.queue))

/-- In RUNNING, FROZEN and MEMORY_ERROR, if the running poll timer reaches order_poll at the next millisecond,
ORDER_POLL answers a next state with the poll timer restarted from 0; NUDGE answers one in every state. In both: an
IDLE executor looks at once in RUNNING and has a look owed in FROZEN and MEMORY_ERROR; with FULL 1 the owner field
is read again in RUNNING with no sequence in progress, the re-read is owed in FROZEN and MEMORY_ERROR, and a
sequence in progress in RUNNING goes on with nothing owed. A NUDGE leaves an executor that is not IDLE, or in any
other control state, as it is. That a row naming an event is the occasion that brings the event about is the reading
of log entry 1. That a re-read is owed with a sequence suspended too is the reading of log entry 17. (R126, R165,
R175) -/
def Obligations.PollAndNudgeReachBothUnits : Prop :=
  (∀ (s : State),
    s.run.control.live = true →
    s.executor.poll.running = true →
    s.settings.orderPoll ≤ s.executor.poll.value + 1 →
    ∃ t, exec .orderPoll s = .next t ∧
      t.time = s.time + 1 ∧
      t.executor.poll = ⟨0, true⟩ ∧
      (s.executor.phase = .idle → s.run.control = .running →
          t.executor = { s.executor with phase := .lookPriority, poll := ⟨0, true⟩ }) ∧
      (s.executor.phase = .idle → s.run.control = .frozen ∨ s.run.control = .memoryError →
          t.executor = { s.executor with lookOwed := true, poll := ⟨0, true⟩ }) ∧
      (s.journal.full = true → s.run.control = .running → s.journal.work = none →
          t.journal.work = some ⟨.recheck, 0, 0, .readOwner⟩) ∧
      (s.journal.full = true → s.run.control = .frozen ∨ s.run.control = .memoryError → t.journal.recheckOwed = true) ∧
      (s.journal.full = true → s.run.control = .running → s.journal.work ≠ none →
          t.journal.work.map Work.kind = s.journal.work.map Work.kind ∧ t.journal.recheckOwed = s.journal.recheckOwed)) ∧
  (∀ (s : State) (v : Word),
    ∃ t, exec (.nudge v) s = .next t ∧
      (s.executor.phase = .idle → s.run.control = .running →
          t.executor = { s.executor with phase := .lookPriority }) ∧
      (s.executor.phase = .idle → s.run.control = .frozen ∨ s.run.control = .memoryError →
          t.executor = { s.executor with lookOwed := true }) ∧
      (s.journal.full = true → s.run.control = .running → s.journal.work = none →
          t.journal.work = some ⟨.recheck, 0, 0, .readOwner⟩) ∧
      (s.journal.full = true → s.run.control = .frozen ∨ s.run.control = .memoryError → t.journal.recheckOwed = true) ∧
      (s.journal.full = true → s.run.control = .running → s.journal.work ≠ none →
          t.journal.work.map Work.kind = s.journal.work.map Work.kind ∧ t.journal.recheckOwed = s.journal.recheckOwed) ∧
      (s.executor.phase ≠ .idle → t.executor = s.executor) ∧
      (s.run.control.live = false → t.executor = s.executor) ∧
      t.lines = s.lines ∧
      t.time = s.time)

/-- For the good response, used in RUNNING or as a retry, to the FILLED write of a record at the head of the queue: the
next index advances by 1 modulo the journal length; with dropped count 0 the rest of the queue remains, and the
batch delay timer stops if it is empty; with another dropped count GAP with the count, first drop and gap set is
staged behind it at the cabinet time, count and gap set are cleared, and with FULL 0 its trigger is owed. With
records left the batch reads the next owner field; with none and a room threshold it makes the room check; with room
threshold 0 ROOM_LOW becomes 0. (R160, R162, R163, R166) -/
def Obligations.WrittenRecordLeavesTheQueue : Prop :=
  ∀ (s : State) (a : Access) (data : List Byte) (k : WorkKind) (n w : Nat) (r : Record) (q : List Record),
    s.inFlight = some a →
    a.unit = .journal →
    a.write = true →
    s.journal.work = some ⟨k, n, w, .writeFilled⟩ →
    s.journal.queue = r :: q →
    ∃ t, exec (.memoryAccessDone data) s = .next t ∧
      t.journal.nextIndex = (s.journal.nextIndex + 1) % s.geometry.journalLength ∧
      (s.journal.dropped = 0 → t.journal.queue = q ∧ (q = [] → t.journal.delay.timer.running = false)) ∧
      (s.journal.dropped ≠ 0 →
          t.journal.queue = q ++ [⟨none, s.time, .gap s.journal.dropped s.journal.firstDrop s.journal.gapSet⟩] ∧
            t.journal.dropped = 0 ∧ t.journal.gapSet = 0 ∧ (s.journal.full = false → t.journal.batchOwed = true)) ∧
      (t.journal.work.map (fun x => (x.kind, x.taken, x.wrote)) = some (k, n - 1, w + 1)) ∧
      (2 ≤ n → t.journal.work.map Work.step = some .readOwner) ∧
      (n ≤ 1 → s.settings.roomThreshold ≠ 0 → t.journal.work.map Work.step = some .roomRead) ∧
      (n ≤ 1 → s.settings.roomThreshold = 0 → t.journal.roomLow = false) ∧
      t.lines = s.lines ∧
      t.pool = s.pool ∧
      t.plan = s.plan ∧
      t.settings = s.settings ∧
      t.test = s.test ∧
      t.links = s.links ∧
      t.time = s.time

/-- For the good response of one byte, used in RUNNING or as a retry, to an owner read: of a batch, EMPTY lets the body
be written and leaves FULL as it is; any other value makes FULL 1 and raises the FULL cause if FULL was 0, and the
batch goes on without writing, its records staged and the next index as before. Of a FULL re-read, EMPTY makes FULL
0, leaves no re-read owed and begins a batch that takes every staged record, or, at a retry with freeze asked 1,
which leaves the part FROZEN, ends the sequence with a batch owed; any other value leaves FULL and goes on to the
status write, with no re-read owed in RUNNING. That a unit whose retry leaves the part FROZEN begins nothing new
there is the reading of log entry 34. That a re-read owed counts as made by a suspended re-read is the reading of
log entry 17. (R163, R164, R165, R181) -/
def Obligations.OwnerReadFindsEmptyOrFull : Prop :=
  ∀ (s : State) (a : Access) (b : Byte) (k : WorkKind) (n w : Nat),
    s.inFlight = some a →
    a.unit = .journal →
    a.write = false →
    a.length = 1 →
    s.journal.work = some ⟨k, n, w, .readOwner⟩ →
    ∃ t, exec (.memoryAccessDone [b]) s = .next t ∧
      t.journal.queue = s.journal.queue ∧
      t.journal.nextIndex = s.journal.nextIndex ∧
      (k ≠ .recheck → b = 0 → t.journal.work = some ⟨k, n, w, .writeBody⟩ ∧ t.journal.full = s.journal.full) ∧
      (k ≠ .recheck → b ≠ 0 →
          t.journal.full = true ∧ (s.journal.full = false → t.run.causes.getLsbD 2 = true) ∧
            (s.journal.full = true → t.run.causes.getLsbD 2 = s.run.causes.getLsbD 2) ∧
            t.journal.work.map (fun x => (x.kind, x.taken, x.wrote)) = some (k, n, w)) ∧
      (k = .recheck → b = 0 →
          t.journal.full = false ∧ t.run.causes.getLsbD 2 = s.run.causes.getLsbD 2 ∧
            t.journal.recheckOwed = false ∧
            if s.run.control = .memoryError ∧ s.run.freezeAsked = true then
              t.run.control = .frozen ∧ t.journal.work = none ∧ t.journal.batchOwed = true
            else t.journal.work.map (fun x => (x.kind, x.taken, x.wrote)) = some (.normal, s.journal.queue.length, 0)) ∧
      (k = .recheck → b ≠ 0 →
          t.journal.full = s.journal.full ∧ t.run.causes.getLsbD 2 = s.run.causes.getLsbD 2 ∧
            (t.run.control = .running → t.journal.recheckOwed = false) ∧
            t.journal.work.map (fun x => (x.kind, x.taken, x.wrote)) = some (.recheck, n, w))

/-- For the good response, used in RUNNING or as a retry, to the status block write of a batch: the BATCH cause is
raised exactly if the batch wrote a record; the staged records, the next index and FULL stay; at a retry with freeze
asked 1 the part is FROZEN, no sequence remains and what is owed stays owed; otherwise, if a batch is owed and FULL
is 0, a new batch takes every staged record; else, if a re-read is owed and FULL is 1, the owner field is read
again; else no sequence remains, and with records staged and batch_absolute not 0 the batch absolute timer runs from
0 with that limit. That a re-read is owed in FROZEN and MEMORY_ERROR with a sequence suspended too, and is made when
that sequence ends in RUNNING with FULL 1, is the reading of log entry 17. That a unit whose retry leaves the part
FROZEN begins nothing new there is the reading of log entry 34. (R161, R162, R163, R165, R168, R181) -/
def Obligations.BatchEndsWithItsCauseAndTheWorkOwed : Prop :=
  ∀ (s : State) (a : Access) (data : List Byte) (n w : Nat),
    s.inFlight = some a →
    a.unit = .journal →
    a.write = true →
    s.journal.work = some ⟨.normal, n, w, .block⟩ →
    ∃ t, exec (.memoryAccessDone data) s = .next t ∧
      t.run.causes.getLsbD 0 = (s.run.causes.getLsbD 0 || decide (w ≠ 0)) ∧
      t.journal.queue = s.journal.queue ∧
      t.journal.nextIndex = s.journal.nextIndex ∧
      t.journal.full = s.journal.full ∧
      (if s.run.control = .memoryError ∧ s.run.freezeAsked = true then
          t.run.control = .frozen ∧ t.journal.work = none ∧ t.journal.batchOwed = s.journal.batchOwed ∧
            t.journal.recheckOwed = s.journal.recheckOwed ∧
            (s.journal.queue ≠ [] → s.settings.batchAbsolute ≠ 0 →
              t.journal.absolute = ⟨⟨0, true⟩, s.settings.batchAbsolute⟩)
        else if s.journal.batchOwed = true ∧ s.journal.full = false then
          t.journal.work.map (fun x => (x.kind, x.taken, x.wrote)) = some (.normal, s.journal.queue.length, 0) ∧
            t.journal.batchOwed = false ∧ t.journal.absolute.timer.running = false
        else if s.journal.recheckOwed = true ∧ s.journal.full = true then
          t.journal.work = some ⟨.recheck, 0, 0, .readOwner⟩ ∧ t.journal.recheckOwed = false
        else
          t.journal.work = none ∧
            (s.journal.queue ≠ [] → s.settings.batchAbsolute ≠ 0 →
              t.journal.absolute = ⟨⟨0, true⟩, s.settings.batchAbsolute⟩))

/-- In STOPPING, for the good response to the status block write of the final batch: the part is STOPPED; BATCH is
raised exactly if it wrote a record, and the other causes, the enables, the area base, the start result, last grant
and cabinet time stay; freeze asked is 0, the port FREE and no access is failed; the staged records are gone and the
next indices stay; every line is NOT_EQUIPPED without train or collection, its conditions CLEAR; every receiver is
FREE and the queue empty; the links are DOWN; the Test Engine is idle with its converter state kept, and the
executor idle. (R17, R66, R139, R157, R170, R172, R173, R182) -/
def Obligations.FinalBatchEndsTheStop : Prop :=
  ∀ (s : State) (a : Access) (data : List Byte) (n w : Nat) (L : LineNo),
    s.run.control = .stopping →
    s.run.port = .busy a true →
    a.unit = .journal →
    a.write = true →
    s.journal.work = some ⟨.final, n, w, .block⟩ →
    ∃ t, exec (.memoryAccessDone data) s = .next t ∧
      (t.run = { s.run with
          control := .stopped, freezeAsked := false, port := .free, failed := none, start := none
          causes := if w = 0 then s.run.causes else s.run.causes ||| 1 }) ∧
      t.time = s.time ∧
      t.journal = { nextIndex := s.journal.nextIndex, firstDrop := s.journal.firstDrop } ∧
      t.executor = { nextPriority := s.executor.nextPriority, nextRoutine := s.executor.nextRoutine } ∧
      (t.line L).sup.hook = .notEquipped ∧
      (t.line L).sup.timer = ⟨0, false⟩ ∧
      (t.line L).dec.trainOpen = false ∧
      (t.line L).coll.state = .idle ∧
      (t.line L).coll.string = [] ∧
      (t.line L).fault.allClear = true ∧
      (t.line L).profile = (s.line L).profile ∧
      (∀ r, t.receiver r = {}) ∧
      t.pool.queue = [] ∧
      t.pool.enabledCount = s.pool.enabledCount ∧
      (∀ g, (t.link g).up = false) ∧
      t.test = { suspect := s.test.suspect }

/-- For MEMORY_ACCESS_ERROR and MEMORY_ACCESS_TIMEOUT with an access in flight: in RUNNING the part is in MEMORY_ERROR
with the access recorded as failed, the port FREE and MEM_ERROR raised, and nothing else changes; in MEMORY_ERROR, a
failed retry, the port is FREE and MEM_ERROR raised again, and nothing else changes; in STARTING the part is STOPPED
with start result MEM_ERROR; in STOPPING it is STOPPED with its start result kept; in both MEM_ERROR is raised,
nothing is recorded as failed and the staged records are gone. With no access in flight nothing changes. (R172,
R179, R181, R182) -/
def Obligations.FailedAccessByControlState : Prop :=
  (∀ (s : State) (a : Access) (live : Bool) (c : Instr),
    s.run.port = .busy a live →
    c = .memoryAccessError ∨ c = .memoryAccessTimeout →
    ∃ t, exec c s = .next t ∧
      (s.run.control = .running →
          t = { s with run := { s.run with
            control := .memoryError, failed := some a, port := .free, causes := s.run.causes ||| 32 } }) ∧
      (s.run.control = .memoryError → t = { s with run := { s.run with port := .free, causes := s.run.causes ||| 32 } }) ∧
      (s.run.control = .starting ∨ s.run.control = .stopping →
          t.run = { s.run with
            control := .stopped, freezeAsked := false, port := .free, failed := none, start := none
            causes := s.run.causes ||| 32
            startResult := if s.run.control = .starting then .memError else s.run.startResult } ∧
          t.journal.queue = [] ∧ t.executor.phase = .idle ∧ ∀ L, (t.line L).sup.hook = .notEquipped)) ∧
  (∀ (s : State) (c : Instr),
    s.run.port = .free →
    c = .memoryAccessError ∨ c = .memoryAccessTimeout →
    ∃ t, exec c s = .next t ∧
      t = s)

/-- In STARTING, for the good response of 64 bytes that completes the 256 bytes of the Global Settings: if the journal
length is 16..1024 and each list length 8..256, each a multiple of 8, the offsets are multiples of 32, each region
lies in 0x2000..0xFFFFF and no two share a byte, the geometry and the clamped settings are kept, the number of
clamped fields is held for RUN_STARTED, and the start goes on to the plan tables; if any test fails, the part is
STOPPED with start result BAD_LAYOUT, its causes and geometry as before. That the next access is granted at the end
of the command is log entry 4. (R174, R178, R179) -/
def Obligations.StartChecksTheGeometry : Prop :=
  ∀ (s : State) (a : Access) (live : Bool) (data bytes : List Byte) (x y : Nat),
    s.run.control = .starting →
    s.run.port = .busy a live →
    a.write = false →
    a.length = 64 →
    data.length = 64 →
    bytes.length = 192 →
    s.run.start = some ⟨.settings bytes, x, y⟩ →
    ∃ t, exec (.memoryAccessDone data) s = .next t ∧
      (let bs := bytes ++ data
       let jo := rd32 bs 0x00
       let jn := rd16 bs 0x04
       let po := rd32 bs 0x08
       let pn := rd16 bs 0x0C
       let ro := rd32 bs 0x10
       let rn := rd16 bs 0x14
       if (16 ≤ jn ∧ jn ≤ 1024 ∧ 8 ∣ jn) ∧ (8 ≤ pn ∧ pn ≤ 256 ∧ 8 ∣ pn) ∧ (8 ≤ rn ∧ rn ≤ 256 ∧ 8 ∣ rn) ∧
           32 ∣ jo ∧ 32 ∣ po ∧ 32 ∣ ro ∧
           (0x2000 ≤ jo ∧ jo + 32 * jn - 1 ≤ 0xFFFFF) ∧ (0x2000 ≤ po ∧ po + 32 * pn - 1 ≤ 0xFFFFF) ∧
           (0x2000 ≤ ro ∧ ro + 32 * rn - 1 ≤ 0xFFFFF) ∧
           (jo + 32 * jn ≤ po ∨ po + 32 * pn ≤ jo) ∧ (jo + 32 * jn ≤ ro ∨ ro + 32 * rn ≤ jo) ∧
           (po + 32 * pn ≤ ro ∨ ro + 32 * rn ≤ po) then
         t.geometry = ⟨jo, jn, po, pn, ro, rn⟩ ∧ t.settings = parseSettings jn bs ∧ t.run.control = .starting ∧
           t.run.start = some ⟨.plan [] [], settingsClamped jn bs, y⟩ ∧
           t.run.port = .busy ⟨.start, false, 0x0200, 64, [], s.run.areaBase + 0x0200#32⟩ true
       else
         t.run.control = .stopped ∧ t.run.startResult = .badLayout ∧ t.run.causes = s.run.causes ∧
           t.geometry = s.geometry)

/-- In STARTING, for the good response to the status block write: the start result is OK and the part RUNNING, or FROZEN
with its cause raised if freeze asked is 1; RUN_STARTED with the three lengths and two counts is staged behind the
records already staged, of which a run has none (with 32 staged, which no run reaches in STARTING, it is dropped as
R159 says), and the dropped count, gap set, FULL, ROOM_LOW and next index are 0; every line is ON_HOOK if enabled,
else NOT_EQUIPPED, with start mark, latches, reseed flag, B and thresholds, decoder and collection at their values
of entry; receivers below receivers_enabled are FREE, the others DISABLED, the queue empty; links DOWN since now,
the highway LOST since now; the poll timer runs from 0; the look is made in RUNNING and owed in FROZEN. That
RUN_STARTED is staged and the part enters RUNNING in that one command is the choice of log entry 35. (R4, R14, R15,
R17, R43, R62, R66, R83, R123, R157, R178, R180) -/
def Obligations.StartEntersRunning : Prop :=
  ∀ (s : State) (a : Access) (live : Bool) (data : List Byte) (x y : Nat) (L : LineNo) (r : RxNo) (g : LinkNo),
    s.run.control = .starting →
    s.run.port = .busy a live →
    a.write = true →
    s.run.start = some ⟨.block, x, y⟩ →
    ∃ t, exec (.memoryAccessDone data) s = .next t ∧
      t.run.startResult = .ok ∧
      t.run.start = none ∧
      (t.run.control = (if s.run.freezeAsked then .frozen else .running)) ∧
      (t.run.causes = (if s.run.freezeAsked then s.run.causes ||| 16 else s.run.causes)) ∧
      (t.journal.queue =
          (if s.journal.queue.length < 32 then
            s.journal.queue ++ [⟨none, s.time,
              .runStarted s.geometry.journalLength s.geometry.priorityLength s.geometry.routineLength x y⟩]
          else s.journal.queue)) ∧
      t.journal.dropped = 0 ∧
      t.journal.gapSet = 0 ∧
      t.journal.full = false ∧
      t.journal.roomLow = false ∧
      t.journal.nextIndex = 0 ∧
      ((t.line L).sup.hook = (if (s.line L).profile.enabled then .onHook else .notEquipped)) ∧
      (t.line L).sup.startMark = (s.line L).profile.enabled ∧
      (t.line L).cond = { reseed := true } ∧
      (t.line L).sup.b = 0 ∧
      (t.line L).sup.seeded = false ∧
      (t.line L).sup.tOn = min 1000 (max (s.line L).profile.f (s.line L).profile.m) ∧
      (t.line L).sup.tOff = max 1 ((t.line L).sup.tOn - (s.line L).profile.h) ∧
      (t.line L).dec.trainOpen = false ∧
      (t.line L).dec.threshold = (s.line L).profile.gMax ∧
      (t.line L).coll.state = .idle ∧
      (t.line L).coll.string = [] ∧
      (t.line L).fault = {} ∧
      (t.line L).profile = (s.line L).profile ∧
      (t.receiver r = { state := if r.val < s.settings.receiversEnabled then .free else .disabled }) ∧
      t.pool.enabledCount = s.settings.receiversEnabled ∧
      t.pool.queue = [] ∧
      t.link g = { downSince := s.time } ∧
      t.highway = { lostSince := s.time } ∧
      t.executor.poll = ⟨0, true⟩ ∧
      (t.executor.phase = (if s.run.freezeAsked then .idle else .lookPriority)) ∧
      t.executor.lookOwed = s.run.freezeAsked ∧
      t.time = s.time

/-- In RUNNING, for the good response to the executor's access: the Priority read goes on to the Routine read; after
that the choice is that of the table of R127 for the current list, served and its weight; the read of the whole
record goes on to the TAKEN write of the copy if the record is READY, else a new look is made, with indices, current
list and served as they were; after the TAKEN write an order of unknown kind completes BAD_KIND with empty data; the
result write goes on to DONE; and after DONE the ORDER cause is raised and a look made. That BAD_KIND is the outcome
of the response to the TAKEN write itself is the reading of log entry 9. (R124, R125, R126, R127, R128, R129, R130) -/
def Obligations.LooksTakesAndCompletions : Prop :=
  (∀ (s : State) (a : Access) (b : Byte),
    s.run.control = .running →
    s.run.port = .busy a true →
    a.unit = .executor →
    a.write = false →
    a.length = 1 →
    s.executor.phase = .lookPriority →
    ∃ t, exec (.memoryAccessDone [b]) s = .next t ∧
      t.executor = { s.executor with phase := .lookRoutine (decide (b = 1)) }) ∧
  (∀ (s : State) (a : Access) (b : Byte) (p : Bool),
    s.run.control = .running →
    s.run.port = .busy a true →
    a.unit = .executor →
    a.write = false →
    a.length = 1 →
    s.executor.phase = .lookRoutine p →
    ∃ t, exec (.memoryAccessDone [b]) s = .next t ∧
      (let current := s.executor.current
       let other := if current = .priority then OrderList.routine else .priority
       let weight := if current = .priority then s.settings.weightPriority else s.settings.weightRoutine
       let currentWork := if current = .priority then p else decide (b = 1)
       let otherWork := if current = .priority then decide (b = 1) else p
       t.executor = { s.executor with
         phase :=
           if currentWork then
             if s.executor.served < weight then .takeRead current (s.executor.served + 1)
             else if otherWork then .takeRead other 1
             else .takeRead current 1
           else if otherWork then .takeRead other 1
           else .idle })) ∧
  (∀ (s : State) (a : Access) (data : List Byte) (l : OrderList) (n : Nat),
    s.run.control = .running →
    s.run.port = .busy a true →
    a.unit = .executor →
    a.write = false →
    data.length = a.length →
    s.executor.phase = .takeRead l n →
    ∃ t, exec (.memoryAccessDone data) s = .next t ∧
      (t.executor = { s.executor with
          phase := if data.getD 0 0 = 1 then .takeWrite ⟨l, s.executor.next l, data⟩ n else .lookPriority })) ∧
  (∀ (s : State) (a : Access) (data : List Byte) (o : Order) (n : Nat),
    s.run.control = .running →
    s.run.port = .busy a true →
    a.unit = .executor →
    a.write = true →
    s.executor.phase = .takeWrite o n →
    o.kind = none →
    ∃ t, exec (.memoryAccessDone data) s = .next t ∧
      t.executor.phase = .writeResult o ⟨1, List.replicate 27 0⟩ ∧
      t.executor.next o.list = (s.executor.next o.list + 1) % s.geometry.listLength o.list ∧
      t.executor.current = o.list ∧
      t.executor.served = n ∧
      t.lines = s.lines ∧
      t.pool = s.pool) ∧
  (∀ (s : State) (a : Access) (data : List Byte) (o : Order) (r : OrderResult),
    s.run.control = .running →
    s.run.port = .busy a true →
    a.unit = .executor →
    a.write = true →
    s.executor.phase = .writeResult o r →
    ∃ t, exec (.memoryAccessDone data) s = .next t ∧
      t.executor = { s.executor with phase := .writeDone o }) ∧
  (∀ (s : State) (a : Access) (data : List Byte) (o : Order),
    s.run.control = .running →
    s.run.port = .busy a true →
    a.unit = .executor →
    a.write = true →
    s.executor.phase = .writeDone o →
    ∃ t, exec (.memoryAccessDone data) s = .next t ∧
      t.executor = { s.executor with phase := .lookPriority } ∧
      t.run.causes.getLsbD 3 = true ∧
      t.lines = s.lines)

/-- For the good response that puts a BLOCK of a line other than TESTING in execution: ON_HOOK and PARKED become BLOCKED
and are answered OK, from ON_HOOK with start mark NO, from PARKED with the train dropped and the collection IDLE;
GUARD is answered GUARDED, NOT_EQUIPPED so, any other state LINE_BUSY, with the line as before. For an UNBLOCK:
BLOCKED becomes ON_HOOK with the reseed flag set and the baseline cleared; GUARD gets guard return ON_HOOK; any
other line is as before; answered OK. In both the data is the hook state before, the next index of the list
advances, nothing is staged and every other line is as before but for its time of last change. That an order is
carried out at the response to its TAKEN write is the reading of log entry 9, and the row names that response by log
entry 1. (R23, R29, R30, R38, R39, R125, R128, R132) -/
def Obligations.BlockAndUnblockByHookState : Prop :=
  (∀ (s : State) (o : Order) (L : LineNo),
    s.taking = some o →
    o.kind = some .block →
    o.lineField = L.val →
    (s.line L).sup.hook ≠ .testing →
    ∃ t, exec (.block L) s = .next t ∧
      (t.executor.phase = .writeResult o
          ⟨match (s.line L).sup.hook with
            | .onHook => 0
            | .parked => 0
            | .guard => 6
            | .notEquipped => 3
            | _ => 4, BitVec.ofNat 8 (s.line L).sup.hook.code :: List.replicate 26 0⟩) ∧
      (match (s.line L).sup.hook with
        | .onHook => (t.line L).sup.hook = .blocked ∧ (t.line L).sup.startMark = false
        | .parked =>
          (t.line L).sup.hook = .blocked ∧ (t.line L).dec.trainOpen = false ∧ (t.line L).coll.state = .idle ∧
            (t.line L).coll.string = [] ∧ (s.poolSound → t.served L = false)
        | _ => t.line L = s.line L) ∧
      t.executor.next o.list = (s.executor.next o.list + 1) % s.geometry.listLength o.list ∧
      t.executor.current = o.list ∧
      t.journal.queue = s.journal.queue ∧
      (∀ K, K ≠ L → (s.line K).sameButTime (t.line K))) ∧
  (∀ (s : State) (o : Order) (L : LineNo),
    s.taking = some o →
    o.kind = some .unblock →
    o.lineField = L.val →
    ∃ t, exec (.unblock L) s = .next t ∧
      t.executor.phase = .writeResult o ⟨0, BitVec.ofNat 8 (s.line L).sup.hook.code :: List.replicate 26 0⟩ ∧
      (match (s.line L).sup.hook with
        | .blocked =>
          (t.line L).sup.hook = .onHook ∧ (t.line L).cond = { (s.line L).cond with reseed := true } ∧
            (t.line L).sup.b = 0 ∧ (t.line L).sup.seeded = false ∧
            (t.line L).sup.tOn = min 1000 (max (s.line L).profile.f (s.line L).profile.m)
        | .guard => t.line L = { s.line L with sup := { (s.line L).sup with guardReturn := .onHook } }
        | _ => t.line L = s.line L) ∧
      t.executor.next o.list = (s.executor.next o.list + 1) % s.geometry.listLength o.list ∧
      t.executor.current = o.list ∧
      t.journal.queue = s.journal.queue ∧
      t.pool = s.pool ∧
      (∀ K, K ≠ L → t.line K = s.line K))

/-- For the good response that puts an ATTACH_RECEIVER of a line in execution: in ACTIVE or OPEN_INTERVAL a line that
holds a receiver is answered with its number and a queued line QUEUED, with the pool as before; else the lowest FREE
receiver is attached with window, accepted count and digit state fresh, and answered; else the line joins the tail
of the queue, answered QUEUED. In any other hook state the pool is as before and the answer WRONG_STATE. For a
DETACH_RECEIVER: the receiver of the line becomes DISABLED if retiring, goes to the head of the queue, or becomes
FREE; a queued line leaves the queue; the answer OK names what was taken. That an order is carried out at the
response to its TAKEN write is the reading of log entry 9, and the row names that response by log entry 1. (R67,
R68, R69, R70, R132) -/
def Obligations.ReceiverOrdersAtThePool : Prop :=
  (∀ (s : State) (o : Order) (L : LineNo),
    s.taking = some o →
    o.kind = some .attachReceiver →
    o.lineField = L.val →
    ∃ t, exec (.attachReceiver L) s = .next t ∧
      (if (s.line L).sup.hook = .active ∨ (s.line L).sup.hook = .openInterval then
          match s.receiverOf L with
          | some r =>
            t.pool = s.pool ∧
              t.executor.phase = .writeResult o ⟨0, 1 :: BitVec.ofNat 8 r.val :: List.replicate 25 0⟩
          | none =>
            if s.queued L then t.pool = s.pool ∧ t.executor.phase = .writeResult o ⟨0, 2 :: List.replicate 26 0⟩
            else
              match s.freeReceiver with
              | some r =>
                t.pool.queue = s.pool.queue ∧ (∀ q, q ≠ r → t.receiver q = s.receiver q) ∧
                  t.receiver r = { s.receiver r with
                    state := .attached, line := some L, blockCount := 0, filters := List.replicate 8 ⟨0, 0⟩, power := 0
                    digit := .quiet, window := ⟨0, true⟩, accepted := 0 } ∧
                  t.executor.phase = .writeResult o ⟨0, 1 :: BitVec.ofNat 8 r.val :: List.replicate 25 0⟩
              | none =>
                t.pool.rx = s.pool.rx ∧ t.pool.queue = s.pool.queue ++ [⟨L, 0, false⟩] ∧
                  t.executor.phase = .writeResult o ⟨0, 2 :: List.replicate 26 0⟩
        else t.pool = s.pool ∧ t.executor.phase = .writeResult o ⟨5, List.replicate 27 0⟩) ∧
      (t.line L).sup = (s.line L).sup ∧
      (t.line L).coll = (s.line L).coll ∧
      t.journal.queue = s.journal.queue) ∧
  (∀ (s : State) (o : Order) (L : LineNo),
    s.taking = some o →
    o.kind = some .detachReceiver →
    o.lineField = L.val →
    ∃ t, exec (.detachReceiver L) s = .next t ∧
      (match s.receiverOf L with
        | some r =>
          t.executor.phase = .writeResult o ⟨0, 1 :: BitVec.ofNat 8 r.val :: List.replicate 25 0⟩ ∧
            (∀ q, q ≠ r → t.receiver q = s.receiver q) ∧
            (if (s.receiver r).retire then
              (t.receiver r).state = .disabled ∧ (t.receiver r).line = none ∧ t.pool.queue = s.pool.queue
            else
              match s.pool.queue with
              | [] => (t.receiver r).state = .free ∧ (t.receiver r).line = none ∧ t.pool.queue = []
              | e :: q =>
                (t.receiver r).state = .attached ∧ (t.receiver r).line = some e.line ∧ t.pool.queue = q ∧
                  (t.receiver r).window = ⟨0, true⟩ ∧ (t.receiver r).accepted = 0)
        | none =>
          t.pool.rx = s.pool.rx ∧
            if s.queued L then
              t.pool.queue = s.pool.queue.filter (fun e => decide (e.line ≠ L)) ∧
                t.executor.phase = .writeResult o ⟨0, 2 :: List.replicate 26 0⟩
            else t.pool.queue = s.pool.queue ∧ t.executor.phase = .writeResult o ⟨0, List.replicate 27 0⟩) ∧
      (t.line L).sup = (s.line L).sup ∧
      (t.line L).coll = (s.line L).coll ∧
      t.journal.queue = s.journal.queue)

/-- For the good response that puts a RESUME_COLLECTION of a line in execution: in ACTIVE with collection DONE, the
collection is COLLECTING with an empty string, the first-digit timer from 0, the interdigit timer stopped and
resumed YES, and with dial_mode TONE or BOTH the line holds a receiver or a queue place, with PULSE the pool is as
before; answered OK. In any other case line and pool are as before, answered WRONG_STATE. The data is the collection
state before the order; nothing is staged. That an order is carried out at the response to its TAKEN write is the
reading of log entry 9, and the row names that response by log entry 1. (R84, R85, R132) -/
def Obligations.ResumeReopensADoneCollection : Prop :=
  ∀ (s : State) (o : Order) (L : LineNo),
    s.taking = some o →
    o.kind = some .resumeCollection →
    o.lineField = L.val →
    ∃ t, exec (.resumeCollection L) s = .next t ∧
      (if (s.line L).sup.hook = .active ∧ (s.line L).coll.state = .done then
          (t.line L).coll.state = .collecting ∧ (t.line L).coll.string = [] ∧ (t.line L).coll.firstDigit = ⟨0, true⟩ ∧
            (t.line L).coll.interdigit.running = false ∧ (t.line L).coll.resumed = true ∧
            (t.line L).sup = (s.line L).sup ∧
            (if (s.line L).profile.dialMode = .pulse then t.pool = s.pool else t.served L = true) ∧
            t.executor.phase = .writeResult o ⟨0, 2 :: List.replicate 26 0⟩
        else
          t.line L = s.line L ∧ t.pool = s.pool ∧
            t.executor.phase = .writeResult o
              ⟨5, BitVec.ofNat 8 (s.line L).coll.state.code :: List.replicate 26 0⟩) ∧
      t.journal.queue = s.journal.queue

/-- The good response that puts a RELOAD_PROFILES in execution begins its reads if the count is 1..96 and line + count
at most 96, and completes it BAD_LINE otherwise. For the good response to the read of a line's record: the line
holds the clamped and repaired profile and PROFILE_CLAMPED if a field was changed; it becomes ON_HOOK unseeded with
the reseed flag if it was NOT_EQUIPPED and is enabled; NOT_EQUIPPED without train, collection, raised condition or
receiver if it is not; else it stays with the thresholds of its present B, and a lost TONE takes its receiver or
place. The next line is read, or the order completes OK with its three counts. That an order is carried out at the
response to its TAKEN write is the reading of log entry 9, and the row names that response by log entry 1. (R34,
R35, R38, R129, R133, R134, R136) -/
def Obligations.ProfileReloadActsLineByLine : Prop :=
  (∀ (s : State) (o : Order) (data : List Byte),
    s.taking = some o →
    o.kind = some .reloadProfiles →
    ∃ t, exec (.reloadProfiles data) s = .next t ∧
      (t.executor.phase =
          if 1 ≤ o.count ∧ o.count ≤ 96 ∧ o.lineField + o.count ≤ 96 then
            .executing o (.profiles o.lineField o.count 0 0 0)
          else .writeResult o ⟨2, List.replicate 27 0⟩) ∧
      t.lines = s.lines) ∧
  (∀ (s : State) (a : Access) (data : List Byte) (o : Order) (L : LineNo) (left applied lines fields : Nat),
    s.inFlight = some a →
    a.unit = .executor →
    a.write = false →
    data.length = a.length →
    s.executor.phase = .executing o (.profiles L.val left applied lines fields) →
    ∃ t, exec (.reloadProfiles data) s = .next t ∧
      (t.line L).profile = parseProfile data ∧
      (t.line L).marks.profileClamped = decide (0 < profileClamped data) ∧
      (if (s.line L).sup.hook = .notEquipped then
          if (parseProfile data).enabled then
            (t.line L).sup.hook = .onHook ∧ (t.line L).cond.reseed = true ∧ (t.line L).sup.seeded = false ∧
              (t.line L).sup.b = 0 ∧ (t.line L).sup.startMark = false
          else (t.line L).sup.hook = .notEquipped
        else if (parseProfile data).enabled then
          (t.line L).sup.hook = (s.line L).sup.hook ∧ (t.line L).sup.b = (s.line L).sup.b ∧
            ((parseProfile data).dialMode = .tone → (t.line L).dec.trainOpen = false)
        else
          (t.line L).sup.hook = .notEquipped ∧ (t.line L).dec.trainOpen = false ∧ (t.line L).coll.state = .idle ∧
            (t.line L).fault.allClear = true ∧ (s.poolSound → t.served L = false)) ∧
      ((parseProfile data).enabled = true →
          (t.line L).sup.tOn = min 1000 (max (parseProfile data).f ((t.line L).sup.b / 16 + (parseProfile data).m)) ∧
          (t.line L).sup.tOff = max 1 ((t.line L).sup.tOn - (parseProfile data).h)) ∧
      ((s.line L).sup.hook ≠ .notEquipped → (s.line L).profile.dialMode ≠ .pulse →
          (parseProfile data).dialMode = .pulse → s.poolSound → t.served L = false) ∧
      (t.executor.phase =
          (let n := profileClamped data
           let lines' := if n = 0 then lines else lines + 1
           if left ≤ 1 then
             .writeResult o ⟨0, [BitVec.ofNat 8 (applied + 1), BitVec.ofNat 8 lines', 0, BitVec.ofNat 8 (fields + n),
               BitVec.ofNat 8 ((fields + n) / 256)] ++ List.replicate 22 0⟩
           else .executing o (.profiles (L.val + 1) (left - 1) (applied + 1) lines' (fields + n)))) ∧
      (∀ K, K ≠ L → (s.line K).sameButTime (t.line K)))

/-- The good response that puts a RELOAD_PLAN or RELOAD_SETTINGS in execution begins its reads and changes no copy. The
response that completes the early-string table replaces the plan: each length entry OPEN for 0, 2 for 1, 24 for
25..255, else as read, each early entry as R86 stores it, and the order completes OK with the used and the altered
entries. The response that completes the settings region applies the clamped fields: with a new enabled count,
receivers at or above it are not FREE and those below it not DISABLED; batch_absolute 0 stops its timer; a
batch_count at or below the staged records is a trigger; and the order completes OK with the number of clamped
fields. That an order is carried out at the response to its TAKEN write is the reading of log entry 9, and the row
names that response by log entry 1. (R74, R86, R87, R137, R138, R161, R162) -/
def Obligations.PlanAndSettingsReplacedWhenRead : Prop :=
  (∀ (s : State) (o : Order) (data : List Byte),
    s.taking = some o →
    o.kind = some .reloadPlan →
    ∃ t, exec (.reloadPlan data) s = .next t ∧
      t.executor.phase = .executing o (.plan [] []) ∧
      t.plan = s.plan ∧
      t.lines = s.lines) ∧
  (∀ (s : State) (a : Access) (data : List Byte) (o : Order) (lengths early : List Byte),
    s.inFlight = some a →
    a.unit = .executor →
    a.write = false →
    data.length = a.length →
    s.executor.phase = .executing o (.plan lengths early) →
    lengths.length = 100 →
    early.length + data.length = 192 →
    ∃ t, exec (.reloadPlan data) s = .next t ∧
      (t.plan = ⟨(List.range 100).map (fun i =>
            let n := (lengths.getD i 0).toNat
            if n = 0 then none else if n = 1 then some 2 else if 25 ≤ n then some 24 else some n),
          (List.range 16).map (storedEarly (early ++ data))⟩) ∧
      (t.executor.phase = .writeResult o ⟨0, [BitVec.ofNat 8 (t.plan.early.countP Option.isSome),
          BitVec.ofNat 8 ((List.range 100).countP (fun i => (lengths.getD i 0) = 1 || decide (25 ≤ (lengths.getD i 0).toNat)))] ++
          List.replicate 25 0⟩) ∧
      t.lines = s.lines ∧
      t.pool = s.pool ∧
      t.settings = s.settings) ∧
  (∀ (s : State) (o : Order) (data : List Byte),
    s.taking = some o →
    o.kind = some .reloadSettings →
    ∃ t, exec (.reloadSettings data) s = .next t ∧
      t.executor.phase = .executing o (.settings []) ∧
      t.settings = s.settings ∧
      t.lines = s.lines) ∧
  (∀ (s : State) (a : Access) (data : List Byte) (o : Order) (bytes : List Byte),
    s.inFlight = some a →
    a.unit = .executor →
    a.write = false →
    data.length = a.length →
    s.executor.phase = .executing o (.settings bytes) →
    bytes.length + data.length = 256 →
    ∃ t, exec (.reloadSettings data) s = .next t ∧
      (t.settings =
          (let bs := bytes ++ data
           { batchCount := max 1 (min 32 (rd8 bs 0x20))
             batchDelay := max 1 (rd8 bs 0x21)
             batchAbsolute := min 1000 (rd16 bs 0x22)
             roomThreshold := min (s.geometry.journalLength - 1) (rd16 bs 0x24)
             orderPoll := max 1 (min 1000 (rd16 bs 0x26))
             weightPriority := max 1 (min 15 (rd8 bs 0x28))
             weightRoutine := max 1 (min 15 (rd8 bs 0x29))
             receiversEnabled := min 8 (rd8 bs 0x2A)
             toneFloor := max 1 (min (2 ^ 40 - 1) (rd64 bs 0x30)) })) ∧
      t.pool.enabledCount = t.settings.receiversEnabled ∧
      (s.pool.enabledCount ≠ t.settings.receiversEnabled →
          ∀ r, (t.settings.receiversEnabled ≤ r.val → (t.receiver r).state ≠ .free) ∧
            (r.val < t.settings.receiversEnabled → (t.receiver r).state ≠ .disabled)) ∧
      (t.settings.batchAbsolute = 0 → t.journal.absolute.timer.running = false) ∧
      (t.settings.batchCount ≤ s.journal.queue.length → s.run.control = .running → s.triggerTaken t) ∧
      t.journal.queue = s.journal.queue ∧
      t.executor.phase = .writeResult o
          ⟨0, BitVec.ofNat 8 (settingsClamped s.geometry.journalLength (bytes ++ data)) :: List.replicate 26 0⟩ ∧
      t.geometry = s.geometry ∧
      t.plan = s.plan)

/-- For the good response that puts a LINE_TEST of a line not TESTING in execution: with the converter SUSPECT it
completes CONVERTER_SUSPECT with empty data; in ON_HOOK and BLOCKED the line is TESTING with that state as test
return and start mark NO, and the engine SETTLING at the connection with stimulus NONE, charged NO, range HIGH,
finding NONE and the mask, all three marks for none; GUARD, NOT_EQUIPPED and the other states complete GUARDED,
NOT_EQUIPPED and LINE_BUSY with the hook state, the line and the engine as before. A SELF_CHECK makes the engine
CHECKING in its first reading of REF_ZERO, whatever the converter state, with the lines as before. That an order is
carried out at the response to its TAKEN write is the reading of log entry 9, and the row names that response by log
entry 1. (R31, R142, R143, R144, R154, R155) -/
def Obligations.TestAdmissionAndSelfCheckBegin : Prop :=
  (∀ (s : State) (o : Order) (L : LineNo),
    s.taking = some o →
    o.kind = some .lineTest →
    o.lineField = L.val →
    (s.line L).sup.hook ≠ .testing →
    ∃ t, exec (.lineTest L) s = .next t ∧
      (if s.test.suspect then
          t.line L = s.line L ∧ t.test = s.test ∧ t.executor.phase = .writeResult o ⟨8, List.replicate 27 0⟩
        else if (s.line L).sup.hook = .onHook ∨ (s.line L).sup.hook = .blocked then
          (t.line L).sup.hook = .testing ∧
            (t.line L).sup.testReturn = (if (s.line L).sup.hook = .blocked then .blocked else .onHook) ∧
            (t.line L).sup.startMark = false ∧ (t.line L).marks.lastChange = s.time ∧
            t.test.phase = .settling ∧ t.test.step = .settle 0 ∧ t.test.connection = some L ∧ t.test.stimulus = .none ∧
            t.test.charged = false ∧ t.test.rangeLow = false ∧ t.test.finding = .none ∧ t.test.suspect = false ∧
            t.test.mask = (if o.count % 8 = 0 then 7 else o.count % 8) ∧
            t.test.results.tipDc = { notRun := !t.test.mask.testBit 0 } ∧
            t.test.results.rTg = { notRun := !t.test.mask.testBit 1 } ∧
            t.test.results.cTr = { notRun := !t.test.mask.testBit 2 } ∧
            t.executor.phase = .executing o .engine
        else
          t.line L = s.line L ∧ t.test = s.test ∧
            t.executor.phase = .writeResult o
              ⟨match (s.line L).sup.hook with
                | .guard => 6
                | .notEquipped => 3
                | _ => 4, BitVec.ofNat 8 (s.line L).sup.hook.code :: List.replicate 26 0⟩) ∧
      t.journal.queue = s.journal.queue) ∧
  (∀ (s : State) (o : Order),
    s.taking = some o →
    o.kind = some .selfCheck →
    ∃ t, exec .selfCheck s = .next t ∧
      t.test = { s.test with
          phase := .checking, step := .reading .refZero, series := { target := some .refZero, taken := 0, last := 0 } } ∧
      t.executor.phase = .executing o .engine ∧
      t.lines = s.lines ∧
      t.journal.queue = s.journal.queue)

/-- In RUNNING, FROZEN and MEMORY_ERROR: at the 20th millisecond TEST_SETTLE_END begins the first selected sub-test,
VOLTAGE with the tip reading, RESISTANCE or CAPACITANCE with a discharge; at the 20th STIMULUS_WAIT_END begins the
drive reading under the stimulus; at the 10th PULSE_END removes the stimulus and begins the V1 reading, a single one
with no series; at the 50th DISCHARGE_END leaves charged NO and begins R_TG with its stimulus, or the V0 reading,
or, at the close, opens the relays, returns the line with its reseed flag set and completes the order, SEIZED if
seized and else OK. Cabinet time is one more in each. That a row naming an event is the occasion that brings the
event about is the reading of log entry 1. That the driven voltage series stands, with no reading taken, from the
end of the stimulus wait is the choice of log entry 37. (R31, R141, R143, R144, R148, R149, R151, R152) -/
def Obligations.TimedTestStepsExpire : Prop :=
  (∀ (s : State) (ms : Nat),
    s.run.control.live = true →
    s.test.step = .settle ms →
    20 ≤ ms + 1 →
    ∃ t, exec .testSettleEnd s = .next t ∧
      t.time = s.time + 1 ∧
      (s.test.mask.testBit 0 = true →
          t.test = { s.test with phase := .measuring, step := .reading .tip, series := ⟨some .tip, 0, 0⟩ }) ∧
      (s.test.mask.testBit 0 = false → s.test.mask.testBit 1 = true →
          t.test = { s.test with
            phase := .discharging, stimulus := .zero, step := .discharge 0 .resistance, series := ⟨none, 0, 0⟩ }) ∧
      (s.test.mask.testBit 0 = false → s.test.mask.testBit 1 = false → s.test.mask.testBit 2 = true →
          t.test = { s.test with
            phase := .discharging, stimulus := .zero, step := .discharge 0 .capacitance, series := ⟨none, 0, 0⟩ })) ∧
  (∀ (s : State) (q : ResQ) (ms : Nat),
    s.run.control.live = true →
    s.test.step = .stimulusWait q ms →
    20 ≤ ms + 1 →
    ∃ t, exec .stimulusWaitEnd s = .next t ∧
      t.time = s.time + 1 ∧
      t.test = { s.test with step := .reading (.drive q), series := ⟨some (.drive q), 0, 0⟩ } ∧
      t.lines = s.lines) ∧
  (∀ (s : State) (ms : Nat),
    s.run.control.live = true →
    s.test.step = .pulse ms →
    10 ≤ ms + 1 →
    ∃ t, exec .pulseEnd s = .next t ∧
      t.time = s.time + 1 ∧
      t.test = { s.test with stimulus := .none, step := .reading .v1, series := ⟨none, 0, 0⟩ } ∧
      t.lines = s.lines) ∧
  (∀ (s : State) (ms : Nat),
    s.run.control.live = true →
    s.test.step = .discharge ms .resistance →
    50 ≤ ms + 1 →
    ∃ t, exec .dischargeEnd s = .next t ∧
      t.time = s.time + 1 ∧
      t.test = { s.test with
          phase := .measuring, stimulus := .dc50 .tg, charged := true, rangeLow := false, step := .stimulusWait .tg 0
          series := ⟨none, 0, 0⟩ } ∧
      t.lines = s.lines) ∧
  (∀ (s : State) (ms : Nat),
    s.run.control.live = true →
    s.test.step = .discharge ms .capacitance →
    50 ≤ ms + 1 →
    ∃ t, exec .dischargeEnd s = .next t ∧
      t.time = s.time + 1 ∧
      t.test = { s.test with
          phase := .measuring, stimulus := .none, charged := false, step := .reading .v0, series := ⟨some .v0, 0, 0⟩ } ∧
      t.lines = s.lines) ∧
  (∀ (s : State) (ms : Nat) (L : LineNo) (o : Order) (w : OrderWork),
    s.run.control.live = true →
    s.test.step = .discharge ms .close →
    50 ≤ ms + 1 →
    s.test.connection = some L →
    s.executor.phase = .executing o w →
    ∃ t, exec .dischargeEnd s = .next t ∧
      t.time = s.time + 1 ∧
      t.test.connection = none ∧
      t.test.stimulus = .none ∧
      t.test.charged = false ∧
      t.test.phase = .idle ∧
      t.test.step = .idle ∧
      ((t.line L).sup.hook = (match (s.line L).sup.testReturn with | .onHook => .onHook | .blocked => .blocked)) ∧
      (t.line L).cond.reseed = true ∧
      (t.line L).sup.b = (s.line L).sup.b ∧
      (∀ K, K ≠ L → t.line K = s.line K) ∧
      (∃ data : List Byte, t.executor.phase = .writeResult o ⟨if s.test.seized then 7 else 0, data⟩))

/-- For a reading in progress and 20 conversions: with DC the floor of the mean of the conversions held to -2048..2047
and AC that of their distance from it, READING_DONE answers a next state that holds DC and AC for the loop watch
read of a LINE_TEST, or takes DC as r_1 of a reference series of a SELF_CHECK. LOOP_WATCH_READ of magnitude 50 or
more cuts the test: seized, every selected quantity not completed SKIPPED, the stimulus removed, a discharge first
if charged. Below 50 it uses the reading: r_1 starts its series, a reading that neither agrees with the last nor is
the eighth is kept as the last, and a first drive reading outside 450..550 is the finding FOREIGN_SOURCE, which
raises FOREIGN_DC. That results, finding and seized keep their values after the end of a test is the choice of log
entry 30. (R116, R140, R141, R145, R149, R154) -/
def Obligations.ReadingsAndLoopWatch : Prop :=
  (∀ (s : State) (x : ReadTarget) (conversions : List Int),
    s.test.step = .reading x →
    conversions.length = 20 →
    x.isReference = false →
    ∃ t, exec (.readingDone conversions) s = .next t ∧
      (t.test = { s.test with
          step := .watch x ((conversions.map (fun c => max (-2048) (min 2047 c))).sum / 20)
            ((conversions.map (fun c =>
              |max (-2048) (min 2047 c) - (conversions.map (fun c => max (-2048) (min 2047 c))).sum / 20|)).sum / 20) }) ∧
      t.lines = s.lines ∧
      t.executor = s.executor ∧
      t.journal.queue = s.journal.queue) ∧
  (∀ (s : State) (x : ReadTarget) (conversions : List Int),
    s.test.step = .reading x →
    conversions.length = 20 →
    x.isReference = true →
    s.test.series.taken = 0 →
    ∃ t, exec (.readingDone conversions) s = .next t ∧
      (t.test = { s.test with
          step := .reading x
          series := ⟨s.test.series.target, 1, (conversions.map (fun c => max (-2048) (min 2047 c))).sum / 20⟩ }) ∧
      t.lines = s.lines ∧
      t.executor = s.executor) ∧
  (∀ (s : State) (x : ReadTarget) (dc ac v : Int) (L : LineNo),
    s.test.step = .watch x dc ac →
    s.test.connection = some L →
    50 ≤ v ∨ v ≤ -50 →
    ∃ t, exec (.loopWatchRead v) s = .next t ∧
      t.test.seized = true ∧
      (t.test.results =
          (let skip := fun q : Quantity => if q.notRun || q.measured then q else { q with skipped := true }
           let q := s.test.results
           ⟨skip q.tipDc, skip q.tipAc, skip q.ringDc, skip q.ringAc, skip q.rTg, skip q.rRg, skip q.rTr, skip q.cTr⟩)) ∧
      t.test.finding = s.test.finding ∧
      (if s.test.charged then
          t.test.phase = .discharging ∧ t.test.stimulus = .zero ∧ t.test.step = .discharge 0 .close ∧ t.lines = s.lines
        else
          t.test.connection = none ∧ t.test.phase = .idle ∧ t.test.stimulus = .none ∧
            (t.line L).sup.hook = (match (s.line L).sup.testReturn with | .onHook => .onHook | .blocked => .blocked) ∧
            (t.line L).cond.reseed = true)) ∧
  (∀ (s : State) (x : ReadTarget) (dc ac v : Int),
    s.test.step = .watch x dc ac →
    -50 < v →
    v < 50 →
    x ≠ .v1 →
    (∀ q, x = .drive q → s.test.series.taken = 0 → 450 ≤ dc ∧ dc ≤ 550) →
    s.test.series.taken = 0 ∨ (s.test.series.taken < 7 ∧ max 2 (dc.natAbs / 50) < (dc - s.test.series.last).natAbs) →
    ∃ t, exec (.loopWatchRead v) s = .next t ∧
      t.test = { s.test with
          step := .reading x, series := ⟨s.test.series.target, s.test.series.taken + 1, dc⟩ } ∧
      t.lines = s.lines ∧
      t.executor = s.executor) ∧
  (∀ (s : State) (q : ResQ) (dc ac v : Int) (L : LineNo),
    s.test.step = .watch (.drive q) dc ac →
    -50 < v →
    v < 50 →
    s.test.series.taken = 0 →
    dc < 450 ∨ 550 < dc →
    s.test.connection = some L →
    s.test.charged = true →
    ∃ t, exec (.loopWatchRead v) s = .next t ∧
      t.test.finding = .foreignSource ∧
      t.test.results.resistance q = { notRun := false, foreign := true, measured := true } ∧
      t.test.phase = .discharging ∧
      t.test.stimulus = .zero ∧
      t.test.step = .discharge 0 .close ∧
      t.test.seized = s.test.seized ∧
      (t.line L).fault.foreignDc.state = .raised ∧
      (t.line L).fault.foreignDc.source = .test ∧
      ((s.line L).fault.foreignDc.state = .clear ∨ (s.line L).fault.foreignDc.state = .suspect →
          s.stagedFirst t s.time (some L) (.faultRaised .foreignDc .test .foreignSource (s.line L).sup.hook dc)))

/-- RUN_START in STOPPED with the port FREE: STARTING, start result NONE, the first 64 bytes of the settings read, all
else as before; in any other state nothing. RUN_STOP in RUNNING: STOPPING, the poll timer 0 and stopped; an order in
execution completes STOPPED with empty data, and its test ends at once, relays open, no stimulus, the line returned
with its reseed flag set; a look or a read of a take is abandoned; with no sequence in progress and no order to
complete the final batch begins. In FROZEN and MEMORY_ERROR: STOPPED, with staged records discarded; in STARTING:
STOPPED with start result ABORTED; in both the causes stay. In STOPPED and STOPPING nothing. That the poll timer,
which R123 has stopped in STOPPING, is 0 there is the choice of log entry 12. That the next access is granted at the
end of the command is log entry 4. (R123, R131, R153, R170, R172, R176, R178, R179, R182) -/
def Obligations.RunStartAndRunStopByControlState : Prop :=
  (∀ (s : State),
    ∃ t, exec .runStart s = .next t ∧
      (if s.run.control = .stopped then
          s.run.port = .free →
            t = { s with run := { s.run with
              control := .starting, startResult := .none, start := some ⟨.settings [], 0, 0⟩
              port := .busy ⟨.start, false, 0, 64, [], s.run.areaBase⟩ true } }
        else t = s)) ∧
  (∀ (s : State),
    s.run.control = .running →
    ∃ t, exec .runStop s = .next t ∧
      t.run.control = .stopping ∧
      t.executor.poll = ⟨0, false⟩ ∧
      t.journal.queue = s.journal.queue ∧
      t.run.causes = s.run.causes ∧
      (∀ o w, s.executor.phase = .executing o w →
          t.executor.phase = .writeResult o ⟨9, List.replicate 27 0⟩ ∧ t.test.connection = none ∧
            t.test.stimulus = .none ∧ t.test.phase = .idle ∧ t.test.suspect = s.test.suspect ∧
            ∀ L, s.test.connection = some L →
              (t.line L).cond.reseed = true ∧
                (t.line L).sup.hook = (match (s.line L).sup.testReturn with | .onHook => .onHook | .blocked => .blocked)) ∧
      (∀ p l n, s.executor.phase = .lookPriority ∨ s.executor.phase = .lookRoutine p ∨ s.executor.phase = .takeRead l n →
          t.executor.phase = .idle) ∧
      (s.executor.phase = .idle → s.journal.work = none → s.run.port = .free →
          t.journal.work.map (fun x => (x.kind, x.taken, x.wrote)) = some (.final, s.journal.queue.length, 0))) ∧
  (∀ (s : State) (L : LineNo),
    s.run.control ≠ .running →
    ∃ t, exec .runStop s = .next t ∧
      (if s.run.control = .frozen ∨ s.run.control = .memoryError ∨ s.run.control = .starting then
          t.run = { s.run with
            control := .stopped, freezeAsked := false, port := .free, failed := none, start := none
            startResult := if s.run.control = .starting then .aborted else s.run.startResult } ∧
          t.journal.queue = [] ∧ t.executor.phase = .idle ∧ t.test.connection = none ∧ t.pool.queue = [] ∧
          (t.line L).sup.hook = .notEquipped ∧ (t.line L).coll.state = .idle ∧ t.time = s.time
        else t = s))

/-- FREEZE sets freeze asked to the value written. Written 1 in RUNNING with the port FREE, the part is FROZEN with its
cause raised, and nothing else changes; with an access in flight in any state but FROZEN, nothing else changes.
Written 0 in FROZEN: RUNNING, the look owed made if the executor is IDLE, and with no sequence suspended the batch
owed begun with FULL 0, or the re-read owed with FULL 1. Written in STOPPED, or 1 in FROZEN, it changes nothing
else. RESUME in MEMORY_ERROR with the port FREE grants the failed access again, with its unit, offset and data at
the present area base, and changes nothing but port and last grant; in any other case it changes nothing. That the
next access is granted at the end of the command is log entry 4. (R126, R161, R165, R173, R180, R181) -/
def Obligations.FreezeThawAndResume : Prop :=
  (∀ (s : State) (b : Bool),
    ∃ t, exec (.freeze b) s = .next t ∧
      t.run.freezeAsked = b ∧
      (b = true → s.run.control = .running → s.run.port = .free →
          t = { s with run := { s.run with freezeAsked := true, control := .frozen, causes := s.run.causes ||| 16 } }) ∧
      (s.run.control ≠ .frozen → s.run.port ≠ .free → t = { s with run := { s.run with freezeAsked := b } }) ∧
      (s.run.control = .stopped ∨ (s.run.control = .frozen ∧ b = true) →
          t = { s with run := { s.run with freezeAsked := b } }) ∧
      (s.run.control = .frozen → b = false →
          t.run.control = .running ∧ t.run.causes = s.run.causes ∧
            (s.executor.phase = .idle → s.executor.lookOwed = true →
              t.executor.phase = .lookPriority ∧ t.executor.lookOwed = false) ∧
            (s.executor.phase ≠ .idle → t.executor = s.executor) ∧
            (s.journal.work = none → s.journal.batchOwed = true → s.journal.full = false →
              t.journal.work.map (fun x => (x.kind, x.taken, x.wrote)) = some (.normal, s.journal.queue.length, 0)) ∧
            (s.journal.work = none → s.journal.recheckOwed = true → s.journal.full = true →
              t.journal.work = some ⟨.recheck, 0, 0, .readOwner⟩) ∧
            t.journal.queue = s.journal.queue ∧ t.lines = s.lines)) ∧
  (∀ (s : State),
    ∃ t, exec .resume s = .next t ∧
      (match s.run.control, s.run.port, s.run.failed with
        | .memoryError, .free, some a =>
          t = { s with run := { s.run with
            port := .busy { a with address := s.run.areaBase + BitVec.ofNat 32 a.offset } true
            lastGrantJournal := t.run.lastGrantJournal } } ∧
          (a.unit = .journal → t.run.lastGrantJournal = true) ∧ (a.unit = .executor → t.run.lastGrantJournal = false)
        | _, _, _ => t = s))

/-- In every state CAUSE answers a next state in which each mark written 1 is 0 and each other mark is as before, and
ENABLES one in which the enables are the value written; nothing else changes. The interrupt line is asserted exactly
while some cause mark and its enable are both 1; CAUSE reads the marks and 0 above them, and CONTROL reads RUN,
FREEZE, the enables in bits 8 to 13, the control state in bits 16 to 18 and the start result in bits 20 to 22, with
RESUME and SOFT_RESET 0. (R176, R177, 11_record_layouts.md, Registers) -/
def Obligations.CausesEnablesAndTheInterruptLine : Prop :=
  (∀ (s : State) (v : Word),
    ∃ t, exec (.cause v) s = .next t ∧
      (∀ i, i < 6 → t.run.causes.getLsbD i = (s.run.causes.getLsbD i && !v.getLsbD i)) ∧
      t = { s with run := { s.run with causes := t.run.causes } } ∧
      (t.irq = true ↔ ∃ i, i < 6 ∧ t.run.causes.getLsbD i = true ∧ s.run.enables.getLsbD i = true) ∧
      (∀ i, i < 32 → (t.readRegister 0x10).getLsbD i = (decide (i < 6) && t.run.causes.getLsbD i))) ∧
  (∀ (s : State) (m : BitVec 6),
    ∃ t, exec (.enables m) s = .next t ∧
      t = { s with run := { s.run with enables := m } } ∧
      (t.irq = true ↔ ∃ i, i < 6 ∧ s.run.causes.getLsbD i = true ∧ m.getLsbD i = true) ∧
      (∀ i, i < 6 → (t.readRegister 0x04).getLsbD (8 + i) = m.getLsbD i) ∧
      (t.readRegister 0x04).getLsbD 1 = s.run.freezeAsked ∧
      (t.readRegister 0x04).getLsbD 0 =
          decide (s.run.control = .starting ∨ s.run.control = .running ∨ s.run.control = .frozen ∨
            s.run.control = .memoryError) ∧
      (t.readRegister 0x04).getLsbD 2 = false ∧
      (t.readRegister 0x04).getLsbD 3 = false ∧
      (((t.readRegister 0x04).extractLsb' 16 3).toNat =
          (match s.run.control with
            | .stopped => 0 | .starting => 1 | .running => 2 | .frozen => 3 | .stopping => 4 | .memoryError => 5)) ∧
      (((t.readRegister 0x04).extractLsb' 20 3).toNat =
          (match s.run.startResult with | .none => 0 | .ok => 1 | .badLayout => 2 | .memError => 3 | .aborted => 4)))

/-- IDENT reads 0x0C960002 in every state and a write to it is ignored. AREA_BASE reads the area base; a write in
STOPPED or FROZEN sets it to the value with its low 12 bits 0, which then read as 0; a write in any other control
state is ignored; and an access is granted at the area base held at its grant. A write to NUDGE is one event
whatever the value, taken by the Journal Unit and the Order Executor; NUDGE reads 0. A write to any other offset is
ignored, and a read of one returns 0. That the Journal Unit takes a NUDGE first and the port is granted at the end
of the command is the choice of log entries 27 and 4. (R175) -/
def Obligations.TheRegisterWindow : Prop :=
  (∀ s : State, s.readRegister 0x00 = 0x0C960002#32 ∧ s.readRegister 0x08 = s.run.areaBase ∧
    s.readRegister 0x0C = 0#32) ∧
  (∀ (s : State) (offset : Nat), offset ≠ 0x00 → offset ≠ 0x04 → offset ≠ 0x08 → offset ≠ 0x0C → offset ≠ 0x10 →
    s.readRegister offset = 0#32) ∧
  (∀ (s : State) (v : Word), s.run.control = .stopped ∨ s.run.control = .frozen →
    ∃ t, exec (.areaBase v) s = .next t ∧ t = { s with run := { s.run with areaBase := t.run.areaBase } } ∧
      (∀ i, t.run.areaBase.getLsbD i = (decide (12 ≤ i) && v.getLsbD i)) ∧
      ∀ i, i < 12 → (t.readRegister 0x08).getLsbD i = false) ∧
  (∀ (s : State) (v : Word), s.run.control ≠ .stopped → s.run.control ≠ .frozen → exec (.areaBase v) s = .next s) ∧
  (∀ (s : State) (unit : MemUnit) (q : Request),
    (s.occupy unit q).run.port =
      .busy ⟨unit, q.write, q.offset, q.length, q.data, s.run.areaBase + BitVec.ofNat 32 q.offset⟩ true) ∧
  (∀ (s : State) (v w : Word), exec (.nudge v) s = exec (.nudge w) s ∧
    exec (.nudge v) s = .next s.journalPoll.executorPoll.settle) ∧
  ∀ (s : State) (offset : Nat) (v : Word), exec (.ignoredRegisterWrite offset v) s = .next s
end

