-- ==== Sys2Proof/Laws/State.lean ====
section
/-! SUPPORT. One lemma per field per update of the state, true by rfl, and the read-after-write laws of lines, links and
receivers. -/

namespace Sys2Proof.Machine

variable (s : State)


/-! ## setLine -/

@[simp] theorem State.setLine_time (L : LineNo) (x : Line) : (s.setLine L x).time = s.time := rfl
@[simp] theorem State.setLine_strobeOut (L : LineNo) (x : Line) : (s.setLine L x).strobeOut = s.strobeOut := rfl
@[simp] theorem State.setLine_links (L : LineNo) (x : Line) : (s.setLine L x).links = s.links := rfl
@[simp] theorem State.setLine_highway (L : LineNo) (x : Line) : (s.setLine L x).highway = s.highway := rfl
@[simp] theorem State.setLine_pool (L : LineNo) (x : Line) : (s.setLine L x).pool = s.pool := rfl
@[simp] theorem State.setLine_plan (L : LineNo) (x : Line) : (s.setLine L x).plan = s.plan := rfl
@[simp] theorem State.setLine_settings (L : LineNo) (x : Line) : (s.setLine L x).settings = s.settings := rfl
@[simp] theorem State.setLine_geometry (L : LineNo) (x : Line) : (s.setLine L x).geometry = s.geometry := rfl
@[simp] theorem State.setLine_journal (L : LineNo) (x : Line) : (s.setLine L x).journal = s.journal := rfl
@[simp] theorem State.setLine_executor (L : LineNo) (x : Line) : (s.setLine L x).executor = s.executor := rfl
@[simp] theorem State.setLine_test (L : LineNo) (x : Line) : (s.setLine L x).test = s.test := rfl
@[simp] theorem State.setLine_run (L : LineNo) (x : Line) : (s.setLine L x).run = s.run := rfl
@[simp] theorem State.setLine_pending (L : LineNo) (x : Line) : (s.setLine L x).pending = s.pending := rfl

/-! ## setLink -/

@[simp] theorem State.setLink_time (g : LinkNo) (x : Link) : (s.setLink g x).time = s.time := rfl
@[simp] theorem State.setLink_strobeOut (g : LinkNo) (x : Link) : (s.setLink g x).strobeOut = s.strobeOut := rfl
@[simp] theorem State.setLink_lines (g : LinkNo) (x : Link) : (s.setLink g x).lines = s.lines := rfl
@[simp] theorem State.setLink_highway (g : LinkNo) (x : Link) : (s.setLink g x).highway = s.highway := rfl
@[simp] theorem State.setLink_pool (g : LinkNo) (x : Link) : (s.setLink g x).pool = s.pool := rfl
@[simp] theorem State.setLink_plan (g : LinkNo) (x : Link) : (s.setLink g x).plan = s.plan := rfl
@[simp] theorem State.setLink_settings (g : LinkNo) (x : Link) : (s.setLink g x).settings = s.settings := rfl
@[simp] theorem State.setLink_geometry (g : LinkNo) (x : Link) : (s.setLink g x).geometry = s.geometry := rfl
@[simp] theorem State.setLink_journal (g : LinkNo) (x : Link) : (s.setLink g x).journal = s.journal := rfl
@[simp] theorem State.setLink_executor (g : LinkNo) (x : Link) : (s.setLink g x).executor = s.executor := rfl
@[simp] theorem State.setLink_test (g : LinkNo) (x : Link) : (s.setLink g x).test = s.test := rfl
@[simp] theorem State.setLink_run (g : LinkNo) (x : Link) : (s.setLink g x).run = s.run := rfl
@[simp] theorem State.setLink_pending (g : LinkNo) (x : Link) : (s.setLink g x).pending = s.pending := rfl

/-! ## setReceiver -/

@[simp] theorem State.setReceiver_time (r : RxNo) (x : Receiver) : (s.setReceiver r x).time = s.time := rfl
@[simp] theorem State.setReceiver_strobeOut (r : RxNo) (x : Receiver) : (s.setReceiver r x).strobeOut = s.strobeOut := rfl
@[simp] theorem State.setReceiver_links (r : RxNo) (x : Receiver) : (s.setReceiver r x).links = s.links := rfl
@[simp] theorem State.setReceiver_lines (r : RxNo) (x : Receiver) : (s.setReceiver r x).lines = s.lines := rfl
@[simp] theorem State.setReceiver_highway (r : RxNo) (x : Receiver) : (s.setReceiver r x).highway = s.highway := rfl
@[simp] theorem State.setReceiver_plan (r : RxNo) (x : Receiver) : (s.setReceiver r x).plan = s.plan := rfl
@[simp] theorem State.setReceiver_settings (r : RxNo) (x : Receiver) : (s.setReceiver r x).settings = s.settings := rfl
@[simp] theorem State.setReceiver_geometry (r : RxNo) (x : Receiver) : (s.setReceiver r x).geometry = s.geometry := rfl
@[simp] theorem State.setReceiver_journal (r : RxNo) (x : Receiver) : (s.setReceiver r x).journal = s.journal := rfl
@[simp] theorem State.setReceiver_executor (r : RxNo) (x : Receiver) : (s.setReceiver r x).executor = s.executor := rfl
@[simp] theorem State.setReceiver_test (r : RxNo) (x : Receiver) : (s.setReceiver r x).test = s.test := rfl
@[simp] theorem State.setReceiver_run (r : RxNo) (x : Receiver) : (s.setReceiver r x).run = s.run := rfl
@[simp] theorem State.setReceiver_pending (r : RxNo) (x : Receiver) : (s.setReceiver r x).pending = s.pending := rfl

/-! ## setQueue -/

@[simp] theorem State.setQueue_time (x : List QueueEntry) : (s.setQueue x).time = s.time := rfl
@[simp] theorem State.setQueue_strobeOut (x : List QueueEntry) : (s.setQueue x).strobeOut = s.strobeOut := rfl
@[simp] theorem State.setQueue_links (x : List QueueEntry) : (s.setQueue x).links = s.links := rfl
@[simp] theorem State.setQueue_lines (x : List QueueEntry) : (s.setQueue x).lines = s.lines := rfl
@[simp] theorem State.setQueue_highway (x : List QueueEntry) : (s.setQueue x).highway = s.highway := rfl
@[simp] theorem State.setQueue_plan (x : List QueueEntry) : (s.setQueue x).plan = s.plan := rfl
@[simp] theorem State.setQueue_settings (x : List QueueEntry) : (s.setQueue x).settings = s.settings := rfl
@[simp] theorem State.setQueue_geometry (x : List QueueEntry) : (s.setQueue x).geometry = s.geometry := rfl
@[simp] theorem State.setQueue_journal (x : List QueueEntry) : (s.setQueue x).journal = s.journal := rfl
@[simp] theorem State.setQueue_executor (x : List QueueEntry) : (s.setQueue x).executor = s.executor := rfl
@[simp] theorem State.setQueue_test (x : List QueueEntry) : (s.setQueue x).test = s.test := rfl
@[simp] theorem State.setQueue_run (x : List QueueEntry) : (s.setQueue x).run = s.run := rfl
@[simp] theorem State.setQueue_pending (x : List QueueEntry) : (s.setQueue x).pending = s.pending := rfl

/-! ## setJournal -/

@[simp] theorem State.setJournal_time (x : Journal) : (s.setJournal x).time = s.time := rfl
@[simp] theorem State.setJournal_strobeOut (x : Journal) : (s.setJournal x).strobeOut = s.strobeOut := rfl
@[simp] theorem State.setJournal_links (x : Journal) : (s.setJournal x).links = s.links := rfl
@[simp] theorem State.setJournal_lines (x : Journal) : (s.setJournal x).lines = s.lines := rfl
@[simp] theorem State.setJournal_highway (x : Journal) : (s.setJournal x).highway = s.highway := rfl
@[simp] theorem State.setJournal_pool (x : Journal) : (s.setJournal x).pool = s.pool := rfl
@[simp] theorem State.setJournal_plan (x : Journal) : (s.setJournal x).plan = s.plan := rfl
@[simp] theorem State.setJournal_settings (x : Journal) : (s.setJournal x).settings = s.settings := rfl
@[simp] theorem State.setJournal_geometry (x : Journal) : (s.setJournal x).geometry = s.geometry := rfl
@[simp] theorem State.setJournal_journal (x : Journal) : (s.setJournal x).journal = x := rfl
@[simp] theorem State.setJournal_executor (x : Journal) : (s.setJournal x).executor = s.executor := rfl
@[simp] theorem State.setJournal_test (x : Journal) : (s.setJournal x).test = s.test := rfl
@[simp] theorem State.setJournal_run (x : Journal) : (s.setJournal x).run = s.run := rfl
@[simp] theorem State.setJournal_pending (x : Journal) : (s.setJournal x).pending = s.pending := rfl

/-! ## setExecutor -/

@[simp] theorem State.setExecutor_time (x : Executor) : (s.setExecutor x).time = s.time := rfl
@[simp] theorem State.setExecutor_strobeOut (x : Executor) : (s.setExecutor x).strobeOut = s.strobeOut := rfl
@[simp] theorem State.setExecutor_links (x : Executor) : (s.setExecutor x).links = s.links := rfl
@[simp] theorem State.setExecutor_lines (x : Executor) : (s.setExecutor x).lines = s.lines := rfl
@[simp] theorem State.setExecutor_highway (x : Executor) : (s.setExecutor x).highway = s.highway := rfl
@[simp] theorem State.setExecutor_pool (x : Executor) : (s.setExecutor x).pool = s.pool := rfl
@[simp] theorem State.setExecutor_plan (x : Executor) : (s.setExecutor x).plan = s.plan := rfl
@[simp] theorem State.setExecutor_settings (x : Executor) : (s.setExecutor x).settings = s.settings := rfl
@[simp] theorem State.setExecutor_geometry (x : Executor) : (s.setExecutor x).geometry = s.geometry := rfl
@[simp] theorem State.setExecutor_journal (x : Executor) : (s.setExecutor x).journal = s.journal := rfl
@[simp] theorem State.setExecutor_executor (x : Executor) : (s.setExecutor x).executor = x := rfl
@[simp] theorem State.setExecutor_test (x : Executor) : (s.setExecutor x).test = s.test := rfl
@[simp] theorem State.setExecutor_run (x : Executor) : (s.setExecutor x).run = s.run := rfl
@[simp] theorem State.setExecutor_pending (x : Executor) : (s.setExecutor x).pending = s.pending := rfl

/-! ## setTest -/

@[simp] theorem State.setTest_time (x : TestEngine) : (s.setTest x).time = s.time := rfl
@[simp] theorem State.setTest_strobeOut (x : TestEngine) : (s.setTest x).strobeOut = s.strobeOut := rfl
@[simp] theorem State.setTest_links (x : TestEngine) : (s.setTest x).links = s.links := rfl
@[simp] theorem State.setTest_lines (x : TestEngine) : (s.setTest x).lines = s.lines := rfl
@[simp] theorem State.setTest_highway (x : TestEngine) : (s.setTest x).highway = s.highway := rfl
@[simp] theorem State.setTest_pool (x : TestEngine) : (s.setTest x).pool = s.pool := rfl
@[simp] theorem State.setTest_plan (x : TestEngine) : (s.setTest x).plan = s.plan := rfl
@[simp] theorem State.setTest_settings (x : TestEngine) : (s.setTest x).settings = s.settings := rfl
@[simp] theorem State.setTest_geometry (x : TestEngine) : (s.setTest x).geometry = s.geometry := rfl
@[simp] theorem State.setTest_journal (x : TestEngine) : (s.setTest x).journal = s.journal := rfl
@[simp] theorem State.setTest_executor (x : TestEngine) : (s.setTest x).executor = s.executor := rfl
@[simp] theorem State.setTest_test (x : TestEngine) : (s.setTest x).test = x := rfl
@[simp] theorem State.setTest_run (x : TestEngine) : (s.setTest x).run = s.run := rfl
@[simp] theorem State.setTest_pending (x : TestEngine) : (s.setTest x).pending = s.pending := rfl

/-! ## setRun -/

@[simp] theorem State.setRun_time (x : RunControl) : (s.setRun x).time = s.time := rfl
@[simp] theorem State.setRun_strobeOut (x : RunControl) : (s.setRun x).strobeOut = s.strobeOut := rfl
@[simp] theorem State.setRun_links (x : RunControl) : (s.setRun x).links = s.links := rfl
@[simp] theorem State.setRun_lines (x : RunControl) : (s.setRun x).lines = s.lines := rfl
@[simp] theorem State.setRun_highway (x : RunControl) : (s.setRun x).highway = s.highway := rfl
@[simp] theorem State.setRun_pool (x : RunControl) : (s.setRun x).pool = s.pool := rfl
@[simp] theorem State.setRun_plan (x : RunControl) : (s.setRun x).plan = s.plan := rfl
@[simp] theorem State.setRun_settings (x : RunControl) : (s.setRun x).settings = s.settings := rfl
@[simp] theorem State.setRun_geometry (x : RunControl) : (s.setRun x).geometry = s.geometry := rfl
@[simp] theorem State.setRun_journal (x : RunControl) : (s.setRun x).journal = s.journal := rfl
@[simp] theorem State.setRun_executor (x : RunControl) : (s.setRun x).executor = s.executor := rfl
@[simp] theorem State.setRun_test (x : RunControl) : (s.setRun x).test = s.test := rfl
@[simp] theorem State.setRun_run (x : RunControl) : (s.setRun x).run = x := rfl
@[simp] theorem State.setRun_pending (x : RunControl) : (s.setRun x).pending = s.pending := rfl

/-! ## setHighway -/

@[simp] theorem State.setHighway_time (x : Highway) : (s.setHighway x).time = s.time := rfl
@[simp] theorem State.setHighway_strobeOut (x : Highway) : (s.setHighway x).strobeOut = s.strobeOut := rfl
@[simp] theorem State.setHighway_links (x : Highway) : (s.setHighway x).links = s.links := rfl
@[simp] theorem State.setHighway_lines (x : Highway) : (s.setHighway x).lines = s.lines := rfl
@[simp] theorem State.setHighway_highway (x : Highway) : (s.setHighway x).highway = x := rfl
@[simp] theorem State.setHighway_pool (x : Highway) : (s.setHighway x).pool = s.pool := rfl
@[simp] theorem State.setHighway_plan (x : Highway) : (s.setHighway x).plan = s.plan := rfl
@[simp] theorem State.setHighway_settings (x : Highway) : (s.setHighway x).settings = s.settings := rfl
@[simp] theorem State.setHighway_geometry (x : Highway) : (s.setHighway x).geometry = s.geometry := rfl
@[simp] theorem State.setHighway_journal (x : Highway) : (s.setHighway x).journal = s.journal := rfl
@[simp] theorem State.setHighway_executor (x : Highway) : (s.setHighway x).executor = s.executor := rfl
@[simp] theorem State.setHighway_test (x : Highway) : (s.setHighway x).test = s.test := rfl
@[simp] theorem State.setHighway_run (x : Highway) : (s.setHighway x).run = s.run := rfl
@[simp] theorem State.setHighway_pending (x : Highway) : (s.setHighway x).pending = s.pending := rfl

/-! ## withPending -/

@[simp] theorem State.withPending_time (x : List Instr) : (s.withPending x).time = s.time := rfl
@[simp] theorem State.withPending_strobeOut (x : List Instr) : (s.withPending x).strobeOut = s.strobeOut := rfl
@[simp] theorem State.withPending_links (x : List Instr) : (s.withPending x).links = s.links := rfl
@[simp] theorem State.withPending_lines (x : List Instr) : (s.withPending x).lines = s.lines := rfl
@[simp] theorem State.withPending_highway (x : List Instr) : (s.withPending x).highway = s.highway := rfl
@[simp] theorem State.withPending_pool (x : List Instr) : (s.withPending x).pool = s.pool := rfl
@[simp] theorem State.withPending_plan (x : List Instr) : (s.withPending x).plan = s.plan := rfl
@[simp] theorem State.withPending_settings (x : List Instr) : (s.withPending x).settings = s.settings := rfl
@[simp] theorem State.withPending_geometry (x : List Instr) : (s.withPending x).geometry = s.geometry := rfl
@[simp] theorem State.withPending_journal (x : List Instr) : (s.withPending x).journal = s.journal := rfl
@[simp] theorem State.withPending_executor (x : List Instr) : (s.withPending x).executor = s.executor := rfl
@[simp] theorem State.withPending_test (x : List Instr) : (s.withPending x).test = s.test := rfl
@[simp] theorem State.withPending_run (x : List Instr) : (s.withPending x).run = s.run := rfl
@[simp] theorem State.withPending_pending (x : List Instr) : (s.withPending x).pending = x := rfl

/-! ## Reads that other records do not touch -/

@[simp] theorem State.setLink_line (g : LinkNo) (x : Link) (K : LineNo) : (s.setLink g x).line K = s.line K := rfl
@[simp] theorem State.setReceiver_line (r : RxNo) (x : Receiver) (K : LineNo) : (s.setReceiver r x).line K = s.line K := rfl
@[simp] theorem State.setQueue_line (x : List QueueEntry) (K : LineNo) : (s.setQueue x).line K = s.line K := rfl
@[simp] theorem State.setJournal_line (x : Journal) (K : LineNo) : (s.setJournal x).line K = s.line K := rfl
@[simp] theorem State.setExecutor_line (x : Executor) (K : LineNo) : (s.setExecutor x).line K = s.line K := rfl
@[simp] theorem State.setTest_line (x : TestEngine) (K : LineNo) : (s.setTest x).line K = s.line K := rfl
@[simp] theorem State.setRun_line (x : RunControl) (K : LineNo) : (s.setRun x).line K = s.line K := rfl
@[simp] theorem State.setHighway_line (x : Highway) (K : LineNo) : (s.setHighway x).line K = s.line K := rfl
@[simp] theorem State.withPending_line (x : List Instr) (K : LineNo) : (s.withPending x).line K = s.line K := rfl
@[simp] theorem State.setLine_link (L : LineNo) (x : Line) (h : LinkNo) : (s.setLine L x).link h = s.link h := rfl
@[simp] theorem State.setReceiver_link (r : RxNo) (x : Receiver) (h : LinkNo) : (s.setReceiver r x).link h = s.link h := rfl
@[simp] theorem State.setQueue_link (x : List QueueEntry) (h : LinkNo) : (s.setQueue x).link h = s.link h := rfl
@[simp] theorem State.setJournal_link (x : Journal) (h : LinkNo) : (s.setJournal x).link h = s.link h := rfl
@[simp] theorem State.setExecutor_link (x : Executor) (h : LinkNo) : (s.setExecutor x).link h = s.link h := rfl
@[simp] theorem State.setTest_link (x : TestEngine) (h : LinkNo) : (s.setTest x).link h = s.link h := rfl
@[simp] theorem State.setRun_link (x : RunControl) (h : LinkNo) : (s.setRun x).link h = s.link h := rfl
@[simp] theorem State.setHighway_link (x : Highway) (h : LinkNo) : (s.setHighway x).link h = s.link h := rfl
@[simp] theorem State.withPending_link (x : List Instr) (h : LinkNo) : (s.withPending x).link h = s.link h := rfl
@[simp] theorem State.setLine_receiver (L : LineNo) (x : Line) (q : RxNo) : (s.setLine L x).receiver q = s.receiver q := rfl
@[simp] theorem State.setLink_receiver (g : LinkNo) (x : Link) (q : RxNo) : (s.setLink g x).receiver q = s.receiver q := rfl
@[simp] theorem State.setQueue_receiver (x : List QueueEntry) (q : RxNo) : (s.setQueue x).receiver q = s.receiver q := rfl
@[simp] theorem State.setJournal_receiver (x : Journal) (q : RxNo) : (s.setJournal x).receiver q = s.receiver q := rfl
@[simp] theorem State.setExecutor_receiver (x : Executor) (q : RxNo) : (s.setExecutor x).receiver q = s.receiver q := rfl
@[simp] theorem State.setTest_receiver (x : TestEngine) (q : RxNo) : (s.setTest x).receiver q = s.receiver q := rfl
@[simp] theorem State.setRun_receiver (x : RunControl) (q : RxNo) : (s.setRun x).receiver q = s.receiver q := rfl
@[simp] theorem State.setHighway_receiver (x : Highway) (q : RxNo) : (s.setHighway x).receiver q = s.receiver q := rfl
@[simp] theorem State.withPending_receiver (x : List Instr) (q : RxNo) : (s.withPending x).receiver q = s.receiver q := rfl

@[simp] theorem State.setQueue_queue (x : List QueueEntry) : (s.setQueue x).pool.queue = x := rfl
@[simp] theorem State.setQueue_rx (x : List QueueEntry) : (s.setQueue x).pool.rx = s.pool.rx := rfl
@[simp] theorem State.setQueue_enabledCount (x : List QueueEntry) : (s.setQueue x).pool.enabledCount = s.pool.enabledCount := rfl
@[simp] theorem State.setReceiver_queue (r : RxNo) (x : Receiver) : (s.setReceiver r x).pool.queue = s.pool.queue := rfl
@[simp] theorem State.setReceiver_enabledCount (r : RxNo) (x : Receiver) : (s.setReceiver r x).pool.enabledCount = s.pool.enabledCount := rfl

/-! ## Read after write -/

/-- A line read after a line is written: the written one, every other as before. -/
theorem State.line_setLine (L K : LineNo) (x : Line) : (s.setLine L x).line K = if K = L then x else s.line K := by
  unfold State.line State.setLine
  by_cases h : K = L
  · subst h; simp
  · have h' : L.val ≠ K.val := fun e => h (Fin.ext e.symm)
    rw [if_neg h]
    exact Vector.getElem_set_ne L.isLt K.isLt h'

@[simp] theorem State.line_setLine_self (L : LineNo) (x : Line) : (s.setLine L x).line L = x := by
  rw [State.line_setLine, if_pos rfl]

/-- A link record read after one is written. -/
theorem State.link_setLink (g h : LinkNo) (x : Link) : (s.setLink g x).link h = if h = g then x else s.link h := by
  unfold State.link State.setLink
  by_cases e : h = g
  · subst e; simp
  · have e' : g.val ≠ h.val := fun q => e (Fin.ext q.symm)
    rw [if_neg e]
    exact Vector.getElem_set_ne g.isLt h.isLt e'

@[simp] theorem State.link_setLink_self (g : LinkNo) (x : Link) : (s.setLink g x).link g = x := by
  rw [State.link_setLink, if_pos rfl]

/-- A receiver record read after one is written. -/
theorem State.receiver_setReceiver (r q : RxNo) (x : Receiver) :
    (s.setReceiver r x).receiver q = if q = r then x else s.receiver q := by
  unfold State.receiver State.setReceiver
  by_cases e : q = r
  · subst e; simp
  · have e' : r.val ≠ q.val := fun t => e (Fin.ext t.symm)
    rw [if_neg e]
    exact Vector.getElem_set_ne r.isLt q.isLt e'

@[simp] theorem State.receiver_setReceiver_self (r : RxNo) (x : Receiver) : (s.setReceiver r x).receiver r = x := by
  rw [State.receiver_setReceiver, if_pos rfl]

/-- The entries of a mapped vector. -/
theorem mapEach_getElem {α : Type} {n : Nat} (f : α → α) (v : Vector α n) (i : Nat) (h : i < n) :
    (mapEach f v)[i] = f v[i] := by
  simp [mapEach]

/-! ## One record of a line -/

@[simp] theorem State.setSup_time (L : LineNo) (x : Supervision) : (s.setSup L x).time = s.time := rfl
@[simp] theorem State.setSup_strobeOut (L : LineNo) (x : Supervision) : (s.setSup L x).strobeOut = s.strobeOut := rfl
@[simp] theorem State.setSup_links (L : LineNo) (x : Supervision) : (s.setSup L x).links = s.links := rfl
@[simp] theorem State.setSup_highway (L : LineNo) (x : Supervision) : (s.setSup L x).highway = s.highway := rfl
@[simp] theorem State.setSup_pool (L : LineNo) (x : Supervision) : (s.setSup L x).pool = s.pool := rfl
@[simp] theorem State.setSup_plan (L : LineNo) (x : Supervision) : (s.setSup L x).plan = s.plan := rfl
@[simp] theorem State.setSup_settings (L : LineNo) (x : Supervision) : (s.setSup L x).settings = s.settings := rfl
@[simp] theorem State.setSup_geometry (L : LineNo) (x : Supervision) : (s.setSup L x).geometry = s.geometry := rfl
@[simp] theorem State.setSup_journal (L : LineNo) (x : Supervision) : (s.setSup L x).journal = s.journal := rfl
@[simp] theorem State.setSup_executor (L : LineNo) (x : Supervision) : (s.setSup L x).executor = s.executor := rfl
@[simp] theorem State.setSup_test (L : LineNo) (x : Supervision) : (s.setSup L x).test = s.test := rfl
@[simp] theorem State.setSup_run (L : LineNo) (x : Supervision) : (s.setSup L x).run = s.run := rfl
@[simp] theorem State.setSup_pending (L : LineNo) (x : Supervision) : (s.setSup L x).pending = s.pending := rfl
@[simp] theorem State.setSup_link (L : LineNo) (x : Supervision) (h : LinkNo) : (s.setSup L x).link h = s.link h := rfl
@[simp] theorem State.setSup_receiver (L : LineNo) (x : Supervision) (q : RxNo) : (s.setSup L x).receiver q = s.receiver q := rfl
theorem State.line_setSup (L K : LineNo) (x : Supervision) :
    (s.setSup L x).line K = if K = L then { s.line L with sup := x } else s.line K := State.line_setLine ..
@[simp] theorem State.line_setSup_self (L : LineNo) (x : Supervision) : (s.setSup L x).line L = { s.line L with sup := x } :=
  State.line_setLine_self ..
@[simp] theorem State.setCond_time (L : LineNo) (x : Conditioner) : (s.setCond L x).time = s.time := rfl
@[simp] theorem State.setCond_strobeOut (L : LineNo) (x : Conditioner) : (s.setCond L x).strobeOut = s.strobeOut := rfl
@[simp] theorem State.setCond_links (L : LineNo) (x : Conditioner) : (s.setCond L x).links = s.links := rfl
@[simp] theorem State.setCond_highway (L : LineNo) (x : Conditioner) : (s.setCond L x).highway = s.highway := rfl
@[simp] theorem State.setCond_pool (L : LineNo) (x : Conditioner) : (s.setCond L x).pool = s.pool := rfl
@[simp] theorem State.setCond_plan (L : LineNo) (x : Conditioner) : (s.setCond L x).plan = s.plan := rfl
@[simp] theorem State.setCond_settings (L : LineNo) (x : Conditioner) : (s.setCond L x).settings = s.settings := rfl
@[simp] theorem State.setCond_geometry (L : LineNo) (x : Conditioner) : (s.setCond L x).geometry = s.geometry := rfl
@[simp] theorem State.setCond_journal (L : LineNo) (x : Conditioner) : (s.setCond L x).journal = s.journal := rfl
@[simp] theorem State.setCond_executor (L : LineNo) (x : Conditioner) : (s.setCond L x).executor = s.executor := rfl
@[simp] theorem State.setCond_test (L : LineNo) (x : Conditioner) : (s.setCond L x).test = s.test := rfl
@[simp] theorem State.setCond_run (L : LineNo) (x : Conditioner) : (s.setCond L x).run = s.run := rfl
@[simp] theorem State.setCond_pending (L : LineNo) (x : Conditioner) : (s.setCond L x).pending = s.pending := rfl
@[simp] theorem State.setCond_link (L : LineNo) (x : Conditioner) (h : LinkNo) : (s.setCond L x).link h = s.link h := rfl
@[simp] theorem State.setCond_receiver (L : LineNo) (x : Conditioner) (q : RxNo) : (s.setCond L x).receiver q = s.receiver q := rfl
theorem State.line_setCond (L K : LineNo) (x : Conditioner) :
    (s.setCond L x).line K = if K = L then { s.line L with cond := x } else s.line K := State.line_setLine ..
@[simp] theorem State.line_setCond_self (L : LineNo) (x : Conditioner) : (s.setCond L x).line L = { s.line L with cond := x } :=
  State.line_setLine_self ..
@[simp] theorem State.setDec_time (L : LineNo) (x : PulseDecoder) : (s.setDec L x).time = s.time := rfl
@[simp] theorem State.setDec_strobeOut (L : LineNo) (x : PulseDecoder) : (s.setDec L x).strobeOut = s.strobeOut := rfl
@[simp] theorem State.setDec_links (L : LineNo) (x : PulseDecoder) : (s.setDec L x).links = s.links := rfl
@[simp] theorem State.setDec_highway (L : LineNo) (x : PulseDecoder) : (s.setDec L x).highway = s.highway := rfl
@[simp] theorem State.setDec_pool (L : LineNo) (x : PulseDecoder) : (s.setDec L x).pool = s.pool := rfl
@[simp] theorem State.setDec_plan (L : LineNo) (x : PulseDecoder) : (s.setDec L x).plan = s.plan := rfl
@[simp] theorem State.setDec_settings (L : LineNo) (x : PulseDecoder) : (s.setDec L x).settings = s.settings := rfl
@[simp] theorem State.setDec_geometry (L : LineNo) (x : PulseDecoder) : (s.setDec L x).geometry = s.geometry := rfl
@[simp] theorem State.setDec_journal (L : LineNo) (x : PulseDecoder) : (s.setDec L x).journal = s.journal := rfl
@[simp] theorem State.setDec_executor (L : LineNo) (x : PulseDecoder) : (s.setDec L x).executor = s.executor := rfl
@[simp] theorem State.setDec_test (L : LineNo) (x : PulseDecoder) : (s.setDec L x).test = s.test := rfl
@[simp] theorem State.setDec_run (L : LineNo) (x : PulseDecoder) : (s.setDec L x).run = s.run := rfl
@[simp] theorem State.setDec_pending (L : LineNo) (x : PulseDecoder) : (s.setDec L x).pending = s.pending := rfl
@[simp] theorem State.setDec_link (L : LineNo) (x : PulseDecoder) (h : LinkNo) : (s.setDec L x).link h = s.link h := rfl
@[simp] theorem State.setDec_receiver (L : LineNo) (x : PulseDecoder) (q : RxNo) : (s.setDec L x).receiver q = s.receiver q := rfl
theorem State.line_setDec (L K : LineNo) (x : PulseDecoder) :
    (s.setDec L x).line K = if K = L then { s.line L with dec := x } else s.line K := State.line_setLine ..
@[simp] theorem State.line_setDec_self (L : LineNo) (x : PulseDecoder) : (s.setDec L x).line L = { s.line L with dec := x } :=
  State.line_setLine_self ..
@[simp] theorem State.setColl_time (L : LineNo) (x : Collection) : (s.setColl L x).time = s.time := rfl
@[simp] theorem State.setColl_strobeOut (L : LineNo) (x : Collection) : (s.setColl L x).strobeOut = s.strobeOut := rfl
@[simp] theorem State.setColl_links (L : LineNo) (x : Collection) : (s.setColl L x).links = s.links := rfl
@[simp] theorem State.setColl_highway (L : LineNo) (x : Collection) : (s.setColl L x).highway = s.highway := rfl
@[simp] theorem State.setColl_pool (L : LineNo) (x : Collection) : (s.setColl L x).pool = s.pool := rfl
@[simp] theorem State.setColl_plan (L : LineNo) (x : Collection) : (s.setColl L x).plan = s.plan := rfl
@[simp] theorem State.setColl_settings (L : LineNo) (x : Collection) : (s.setColl L x).settings = s.settings := rfl
@[simp] theorem State.setColl_geometry (L : LineNo) (x : Collection) : (s.setColl L x).geometry = s.geometry := rfl
@[simp] theorem State.setColl_journal (L : LineNo) (x : Collection) : (s.setColl L x).journal = s.journal := rfl
@[simp] theorem State.setColl_executor (L : LineNo) (x : Collection) : (s.setColl L x).executor = s.executor := rfl
@[simp] theorem State.setColl_test (L : LineNo) (x : Collection) : (s.setColl L x).test = s.test := rfl
@[simp] theorem State.setColl_run (L : LineNo) (x : Collection) : (s.setColl L x).run = s.run := rfl
@[simp] theorem State.setColl_pending (L : LineNo) (x : Collection) : (s.setColl L x).pending = s.pending := rfl
@[simp] theorem State.setColl_link (L : LineNo) (x : Collection) (h : LinkNo) : (s.setColl L x).link h = s.link h := rfl
@[simp] theorem State.setColl_receiver (L : LineNo) (x : Collection) (q : RxNo) : (s.setColl L x).receiver q = s.receiver q := rfl
theorem State.line_setColl (L K : LineNo) (x : Collection) :
    (s.setColl L x).line K = if K = L then { s.line L with coll := x } else s.line K := State.line_setLine ..
@[simp] theorem State.line_setColl_self (L : LineNo) (x : Collection) : (s.setColl L x).line L = { s.line L with coll := x } :=
  State.line_setLine_self ..
@[simp] theorem State.setFault_time (L : LineNo) (x : FaultRecord) : (s.setFault L x).time = s.time := rfl
@[simp] theorem State.setFault_strobeOut (L : LineNo) (x : FaultRecord) : (s.setFault L x).strobeOut = s.strobeOut := rfl
@[simp] theorem State.setFault_links (L : LineNo) (x : FaultRecord) : (s.setFault L x).links = s.links := rfl
@[simp] theorem State.setFault_highway (L : LineNo) (x : FaultRecord) : (s.setFault L x).highway = s.highway := rfl
@[simp] theorem State.setFault_pool (L : LineNo) (x : FaultRecord) : (s.setFault L x).pool = s.pool := rfl
@[simp] theorem State.setFault_plan (L : LineNo) (x : FaultRecord) : (s.setFault L x).plan = s.plan := rfl
@[simp] theorem State.setFault_settings (L : LineNo) (x : FaultRecord) : (s.setFault L x).settings = s.settings := rfl
@[simp] theorem State.setFault_geometry (L : LineNo) (x : FaultRecord) : (s.setFault L x).geometry = s.geometry := rfl
@[simp] theorem State.setFault_journal (L : LineNo) (x : FaultRecord) : (s.setFault L x).journal = s.journal := rfl
@[simp] theorem State.setFault_executor (L : LineNo) (x : FaultRecord) : (s.setFault L x).executor = s.executor := rfl
@[simp] theorem State.setFault_test (L : LineNo) (x : FaultRecord) : (s.setFault L x).test = s.test := rfl
@[simp] theorem State.setFault_run (L : LineNo) (x : FaultRecord) : (s.setFault L x).run = s.run := rfl
@[simp] theorem State.setFault_pending (L : LineNo) (x : FaultRecord) : (s.setFault L x).pending = s.pending := rfl
@[simp] theorem State.setFault_link (L : LineNo) (x : FaultRecord) (h : LinkNo) : (s.setFault L x).link h = s.link h := rfl
@[simp] theorem State.setFault_receiver (L : LineNo) (x : FaultRecord) (q : RxNo) : (s.setFault L x).receiver q = s.receiver q := rfl
theorem State.line_setFault (L K : LineNo) (x : FaultRecord) :
    (s.setFault L x).line K = if K = L then { s.line L with fault := x } else s.line K := State.line_setLine ..
@[simp] theorem State.line_setFault_self (L : LineNo) (x : FaultRecord) : (s.setFault L x).line L = { s.line L with fault := x } :=
  State.line_setLine_self ..
@[simp] theorem State.setProfile_time (L : LineNo) (x : Profile) : (s.setProfile L x).time = s.time := rfl
@[simp] theorem State.setProfile_strobeOut (L : LineNo) (x : Profile) : (s.setProfile L x).strobeOut = s.strobeOut := rfl
@[simp] theorem State.setProfile_links (L : LineNo) (x : Profile) : (s.setProfile L x).links = s.links := rfl
@[simp] theorem State.setProfile_highway (L : LineNo) (x : Profile) : (s.setProfile L x).highway = s.highway := rfl
@[simp] theorem State.setProfile_pool (L : LineNo) (x : Profile) : (s.setProfile L x).pool = s.pool := rfl
@[simp] theorem State.setProfile_plan (L : LineNo) (x : Profile) : (s.setProfile L x).plan = s.plan := rfl
@[simp] theorem State.setProfile_settings (L : LineNo) (x : Profile) : (s.setProfile L x).settings = s.settings := rfl
@[simp] theorem State.setProfile_geometry (L : LineNo) (x : Profile) : (s.setProfile L x).geometry = s.geometry := rfl
@[simp] theorem State.setProfile_journal (L : LineNo) (x : Profile) : (s.setProfile L x).journal = s.journal := rfl
@[simp] theorem State.setProfile_executor (L : LineNo) (x : Profile) : (s.setProfile L x).executor = s.executor := rfl
@[simp] theorem State.setProfile_test (L : LineNo) (x : Profile) : (s.setProfile L x).test = s.test := rfl
@[simp] theorem State.setProfile_run (L : LineNo) (x : Profile) : (s.setProfile L x).run = s.run := rfl
@[simp] theorem State.setProfile_pending (L : LineNo) (x : Profile) : (s.setProfile L x).pending = s.pending := rfl
@[simp] theorem State.setProfile_link (L : LineNo) (x : Profile) (h : LinkNo) : (s.setProfile L x).link h = s.link h := rfl
@[simp] theorem State.setProfile_receiver (L : LineNo) (x : Profile) (q : RxNo) : (s.setProfile L x).receiver q = s.receiver q := rfl
theorem State.line_setProfile (L K : LineNo) (x : Profile) :
    (s.setProfile L x).line K = if K = L then { s.line L with profile := x } else s.line K := State.line_setLine ..
@[simp] theorem State.line_setProfile_self (L : LineNo) (x : Profile) : (s.setProfile L x).line L = { s.line L with profile := x } :=
  State.line_setLine_self ..
@[simp] theorem State.setMarks_time (L : LineNo) (x : EntryMarks) : (s.setMarks L x).time = s.time := rfl
@[simp] theorem State.setMarks_strobeOut (L : LineNo) (x : EntryMarks) : (s.setMarks L x).strobeOut = s.strobeOut := rfl
@[simp] theorem State.setMarks_links (L : LineNo) (x : EntryMarks) : (s.setMarks L x).links = s.links := rfl
@[simp] theorem State.setMarks_highway (L : LineNo) (x : EntryMarks) : (s.setMarks L x).highway = s.highway := rfl
@[simp] theorem State.setMarks_pool (L : LineNo) (x : EntryMarks) : (s.setMarks L x).pool = s.pool := rfl
@[simp] theorem State.setMarks_plan (L : LineNo) (x : EntryMarks) : (s.setMarks L x).plan = s.plan := rfl
@[simp] theorem State.setMarks_settings (L : LineNo) (x : EntryMarks) : (s.setMarks L x).settings = s.settings := rfl
@[simp] theorem State.setMarks_geometry (L : LineNo) (x : EntryMarks) : (s.setMarks L x).geometry = s.geometry := rfl
@[simp] theorem State.setMarks_journal (L : LineNo) (x : EntryMarks) : (s.setMarks L x).journal = s.journal := rfl
@[simp] theorem State.setMarks_executor (L : LineNo) (x : EntryMarks) : (s.setMarks L x).executor = s.executor := rfl
@[simp] theorem State.setMarks_test (L : LineNo) (x : EntryMarks) : (s.setMarks L x).test = s.test := rfl
@[simp] theorem State.setMarks_run (L : LineNo) (x : EntryMarks) : (s.setMarks L x).run = s.run := rfl
@[simp] theorem State.setMarks_pending (L : LineNo) (x : EntryMarks) : (s.setMarks L x).pending = s.pending := rfl
@[simp] theorem State.setMarks_link (L : LineNo) (x : EntryMarks) (h : LinkNo) : (s.setMarks L x).link h = s.link h := rfl
@[simp] theorem State.setMarks_receiver (L : LineNo) (x : EntryMarks) (q : RxNo) : (s.setMarks L x).receiver q = s.receiver q := rfl
theorem State.line_setMarks (L K : LineNo) (x : EntryMarks) :
    (s.setMarks L x).line K = if K = L then { s.line L with marks := x } else s.line K := State.line_setLine ..
@[simp] theorem State.line_setMarks_self (L : LineNo) (x : EntryMarks) : (s.setMarks L x).line L = { s.line L with marks := x } :=
  State.line_setLine_self ..

end Sys2Proof.Machine
end

