-- ==== Sys2Proof/Laws/Frames.lean ====
section
/-! SUPPORT. What the operations of a line's blocks leave alone: everything but the lines, the pool and the Journal Unit,
and of the Journal Unit's queue all that was there. -/

namespace Sys2Proof.Machine

/-- `t` differs from `s` only in the lines, the pool and the Journal Unit, whose queue only grows, within its bound. -/
structure Within (s t : State) : Prop where
  time : t.time = s.time
  strobeOut : t.strobeOut = s.strobeOut
  links : t.links = s.links
  highway : t.highway = s.highway
  plan : t.plan = s.plan
  settings : t.settings = s.settings
  geometry : t.geometry = s.geometry
  executor : t.executor = s.executor
  test : t.test = s.test
  run : t.run = s.run
  pending : t.pending = s.pending
  full : t.journal.full = s.journal.full
  roomLow : t.journal.roomLow = s.journal.roomLow
  nextIndex : t.journal.nextIndex = s.journal.nextIndex
  recheckOwed : t.journal.recheckOwed = s.journal.recheckOwed
  appended : ∃ ext, t.journal.queue = s.journal.queue ++ ext
  bounded : s.journal.queue.length ≤ 32 → t.journal.queue.length ≤ 32

theorem Within.refl (s : State) : Within s s :=
  ⟨rfl, rfl, rfl, rfl, rfl, rfl, rfl, rfl, rfl, rfl, rfl, rfl, rfl, rfl, rfl, ⟨[], by simp⟩, id⟩

theorem Within.trans {s t u : State} (a : Within s t) (b : Within t u) : Within s u := by
  obtain ⟨x, hx⟩ := a.appended
  obtain ⟨y, hy⟩ := b.appended
  exact ⟨b.time.trans a.time, b.strobeOut.trans a.strobeOut, b.links.trans a.links, b.highway.trans a.highway,
    b.plan.trans a.plan, b.settings.trans a.settings, b.geometry.trans a.geometry, b.executor.trans a.executor,
    b.test.trans a.test, b.run.trans a.run, b.pending.trans a.pending, b.full.trans a.full, b.roomLow.trans a.roomLow,
    b.nextIndex.trans a.nextIndex, b.recheckOwed.trans a.recheckOwed, ⟨x ++ y, by rw [hy, hx, List.append_assoc]⟩,
    fun h => b.bounded (a.bounded h)⟩

/-- A link reads the same where the links do. -/
theorem Within.link {s t : State} (h : Within s t) (g : LinkNo) : t.link g = s.link g := by
  unfold State.link; rw [h.links]

/-- An update of one line stays within. -/
theorem Within.setLine (s : State) (L : LineNo) (x : Line) : Within s (s.setLine L x) :=
  ⟨rfl, rfl, rfl, rfl, rfl, rfl, rfl, rfl, rfl, rfl, rfl, rfl, rfl, rfl, rfl, ⟨[], by simp⟩, id⟩

theorem Within.setReceiver (s : State) (r : RxNo) (x : Receiver) : Within s (s.setReceiver r x) :=
  ⟨rfl, rfl, rfl, rfl, rfl, rfl, rfl, rfl, rfl, rfl, rfl, rfl, rfl, rfl, rfl, ⟨[], by simp⟩, id⟩

theorem Within.setQueue (s : State) (x : List QueueEntry) : Within s (s.setQueue x) :=
  ⟨rfl, rfl, rfl, rfl, rfl, rfl, rfl, rfl, rfl, rfl, rfl, rfl, rfl, rfl, rfl, ⟨[], by simp⟩, id⟩

theorem Within.markUntimed (s : State) (L : LineNo) : Within s (s.markUntimed L) :=
  ⟨rfl, rfl, rfl, rfl, rfl, rfl, rfl, rfl, rfl, rfl, rfl, rfl, rfl, rfl, rfl, ⟨[], by simp [State.markUntimed]⟩, id⟩

theorem Within.markTimed (s : State) (L : LineNo) : Within s (s.markTimed L) :=
  (Within.setLine ..).trans (Within.markUntimed ..)

theorem Within.changeHook (s : State) (L : LineNo) (h : Hook) : Within s (s.changeHook L h) := by
  unfold State.changeHook
  split
  · exact .refl s
  · exact ((Within.setLine ..).trans (Within.setLine ..)).trans (Within.markTimed ..)

/-! ## Staging -/

theorem Within.beginBatch (s : State) (k : WorkKind) : Within s (s.beginBatch k) :=
  ⟨rfl, rfl, rfl, rfl, rfl, rfl, rfl, rfl, rfl, rfl, rfl, rfl, rfl, rfl, rfl, ⟨[], by simp [State.beginBatch]⟩, id⟩

/-- A trigger leaves the queue as it is: it begins a batch, is owed, or has no effect (R161). -/
theorem State.trigger_cases (s : State) :
    (s.journal.full = true ∧ s.trigger = s) ∨
    (s.journal.full = false ∧ s.run.control = .running ∧ s.journal.work = none ∧ s.trigger = s.beginBatch .normal) ∨
    (s.journal.full = false ∧ ¬ (s.run.control = .running ∧ s.journal.work = none) ∧
      s.trigger = s.setJournal { s.journal with batchOwed := true }) := by
  unfold State.trigger
  by_cases h : s.journal.full = true
  · exact .inl ⟨h, by simp [h]⟩
  · have h' : s.journal.full = false := by simpa using h
    by_cases g : s.run.control = .running ∧ s.journal.work = none
    · exact .inr (.inl ⟨h', g.1, g.2, by simp [h', g.1, g.2]⟩)
    · exact .inr (.inr ⟨h', g, by rw [if_neg h, if_neg g]⟩)

theorem Within.trigger (s : State) : Within s s.trigger := by
  rcases s.trigger_cases with ⟨_, e⟩ | ⟨_, _, _, e⟩ | ⟨_, _, e⟩ <;> rw [e]
  · exact .refl s
  · exact .beginBatch s _
  · exact ⟨rfl, rfl, rfl, rfl, rfl, rfl, rfl, rfl, rfl, rfl, rfl, rfl, rfl, rfl, rfl, ⟨[], by simp⟩, id⟩

/-- A trigger changes neither a line nor the pool nor the queue. -/
@[simp] theorem State.trigger_lines (s : State) : s.trigger.lines = s.lines := by
  rcases s.trigger_cases with ⟨_, e⟩ | ⟨_, _, _, e⟩ | ⟨_, _, e⟩ <;> rw [e] <;> rfl

@[simp] theorem State.trigger_pool (s : State) : s.trigger.pool = s.pool := by
  rcases s.trigger_cases with ⟨_, e⟩ | ⟨_, _, _, e⟩ | ⟨_, _, e⟩ <;> rw [e] <;> rfl

@[simp] theorem State.trigger_queue (s : State) : s.trigger.journal.queue = s.journal.queue := by
  rcases s.trigger_cases with ⟨_, e⟩ | ⟨_, _, _, e⟩ | ⟨_, _, e⟩ <;> rw [e] <;> rfl

/-- An append adds its record at the tail, with the time of the append (R158). -/
theorem State.append_queue (s : State) (l : Option LineNo) (b : RecordBody) (u : Bool) :
    (s.append l b u).journal.queue = s.journal.queue ++ [⟨l, s.time, b⟩] := by
  unfold State.append
  dsimp only
  split <;> simp

@[simp] theorem State.append_lines (s : State) (l : Option LineNo) (b : RecordBody) (u : Bool) :
    (s.append l b u).lines = s.lines := by
  unfold State.append
  dsimp only
  split <;> simp

@[simp] theorem State.append_pool (s : State) (l : Option LineNo) (b : RecordBody) (u : Bool) :
    (s.append l b u).pool = s.pool := by
  unfold State.append
  dsimp only
  split <;> simp

/-- What staging does to the queue: a record more while it holds fewer than 32, nothing at 32 (R158, R159). -/
theorem State.stage_queue (s : State) (l : Option LineNo) (b : RecordBody) (u : Bool) :
    (s.stage l b u).journal.queue =
      if s.journal.queue.length < 32 then s.journal.queue ++ [⟨l, s.time, b⟩] else s.journal.queue := by
  unfold State.stage
  split
  · exact s.append_queue l b u
  · rfl

@[simp] theorem State.stage_lines (s : State) (l : Option LineNo) (b : RecordBody) (u : Bool) :
    (s.stage l b u).lines = s.lines := by
  unfold State.stage
  split
  · exact s.append_lines l b u
  · rfl

@[simp] theorem State.stage_pool (s : State) (l : Option LineNo) (b : RecordBody) (u : Bool) :
    (s.stage l b u).pool = s.pool := by
  unfold State.stage
  split
  · exact s.append_pool l b u
  · rfl

@[simp] theorem State.stage_line (s : State) (l : Option LineNo) (b : RecordBody) (u : Bool) (K : LineNo) :
    (s.stage l b u).line K = s.line K := by
  unfold State.line; simp

@[simp] theorem State.stage_receiver (s : State) (l : Option LineNo) (b : RecordBody) (u : Bool) (q : RxNo) :
    (s.stage l b u).receiver q = s.receiver q := by
  unfold State.receiver; simp

theorem Within.stage (s : State) (l : Option LineNo) (b : RecordBody) (u : Bool) : Within s (s.stage l b u) := by
  have key : ∀ t : State, Within t t.trigger := Within.trigger
  refine ⟨?_, ?_, ?_, ?_, ?_, ?_, ?_, ?_, ?_, ?_, ?_, ?_, ?_, ?_, ?_, ?_, ?_⟩
  case refine_16 =>
    rw [State.stage_queue]
    split
    · exact ⟨_, rfl⟩
    · exact ⟨[], by simp⟩
  case refine_17 =>
    intro h
    rw [State.stage_queue]
    split
    · simp; omega
    · exact h
  all_goals
    unfold State.stage
    split
    · unfold State.append
      dsimp only
      split
      · first
          | exact (key _).time | exact (key _).strobeOut | exact (key _).links | exact (key _).highway
          | exact (key _).plan | exact (key _).settings | exact (key _).geometry | exact (key _).executor
          | exact (key _).test | exact (key _).run | exact (key _).pending | exact (key _).full
          | exact (key _).roomLow | exact (key _).nextIndex | exact (key _).recheckOwed
      · rfl
    · rfl

/-! ## The pool -/

theorem Within.attach (s : State) (r : RxNo) (L : LineNo) : Within s (s.attach r L) :=
  (Within.setReceiver ..).trans (Within.markTimed ..)

theorem Within.request (s : State) (L : LineNo) : Within s (s.request L) := by
  unfold State.request
  split
  · exact .refl s
  · split
    · exact .attach ..
    · exact (Within.setQueue ..).trans (Within.markTimed ..)

theorem Within.handOver (s : State) (r : RxNo) : Within s (s.handOver r) := by
  unfold State.handOver
  split
  · exact .refl s
  · exact (Within.setQueue ..).trans (Within.attach ..)

theorem Within.detach (s : State) (r : RxNo) (L : LineNo) : Within s (s.detach r L) := by
  unfold State.detach
  dsimp only
  split
  · exact (Within.setReceiver ..).trans (Within.markTimed ..)
  · exact ((Within.setReceiver ..).trans (Within.markTimed ..)).trans (Within.handOver ..)

theorem Within.release (s : State) (L : LineNo) : Within s (s.release L) := by
  unfold State.release
  split
  · exact .detach ..
  · split
    · exact (Within.setQueue ..).trans (Within.markTimed ..)
    · exact .refl s

/-! ## The parts of a line that the pool leaves alone -/


@[simp] theorem State.markUntimed_sup (s : State) (L K : LineNo) : ((s.markUntimed L).line K).sup = (s.line K).sup := rfl

@[simp] theorem State.markTimed_sup (s : State) (L K : LineNo) : ((s.markTimed L).line K).sup = (s.line K).sup := by
  show ((s.setMarks L _).line K).sup = _
  rw [State.line_setMarks]
  split
  · rename_i h; rw [h]
  · rfl

@[simp] theorem State.attach_sup (s : State) (r : RxNo) (L K : LineNo) : ((s.attach r L).line K).sup = (s.line K).sup := by
  simp [State.attach]

@[simp] theorem State.handOver_sup (s : State) (r : RxNo) (K : LineNo) : ((s.handOver r).line K).sup = (s.line K).sup := by
  unfold State.handOver
  split <;> simp

@[simp] theorem State.detach_sup (s : State) (r : RxNo) (L K : LineNo) : ((s.detach r L).line K).sup = (s.line K).sup := by
  simp only [State.detach]
  split <;> simp

@[simp] theorem State.release_sup (s : State) (L K : LineNo) : ((s.release L).line K).sup = (s.line K).sup := by
  unfold State.release
  split
  · simp
  · split <;> simp

@[simp] theorem State.request_sup (s : State) (L K : LineNo) : ((s.request L).line K).sup = (s.line K).sup := by
  unfold State.request
  split
  · rfl
  · split <;> simp

@[simp] theorem State.markUntimed_cond (s : State) (L K : LineNo) : ((s.markUntimed L).line K).cond = (s.line K).cond := rfl

@[simp] theorem State.markTimed_cond (s : State) (L K : LineNo) : ((s.markTimed L).line K).cond = (s.line K).cond := by
  show ((s.setMarks L _).line K).cond = _
  rw [State.line_setMarks]
  split
  · rename_i h; rw [h]
  · rfl

@[simp] theorem State.attach_cond (s : State) (r : RxNo) (L K : LineNo) : ((s.attach r L).line K).cond = (s.line K).cond := by
  simp [State.attach]

@[simp] theorem State.handOver_cond (s : State) (r : RxNo) (K : LineNo) : ((s.handOver r).line K).cond = (s.line K).cond := by
  unfold State.handOver
  split <;> simp

@[simp] theorem State.detach_cond (s : State) (r : RxNo) (L K : LineNo) : ((s.detach r L).line K).cond = (s.line K).cond := by
  simp only [State.detach]
  split <;> simp

@[simp] theorem State.release_cond (s : State) (L K : LineNo) : ((s.release L).line K).cond = (s.line K).cond := by
  unfold State.release
  split
  · simp
  · split <;> simp

@[simp] theorem State.request_cond (s : State) (L K : LineNo) : ((s.request L).line K).cond = (s.line K).cond := by
  unfold State.request
  split
  · rfl
  · split <;> simp

@[simp] theorem State.markUntimed_dec (s : State) (L K : LineNo) : ((s.markUntimed L).line K).dec = (s.line K).dec := rfl

@[simp] theorem State.markTimed_dec (s : State) (L K : LineNo) : ((s.markTimed L).line K).dec = (s.line K).dec := by
  show ((s.setMarks L _).line K).dec = _
  rw [State.line_setMarks]
  split
  · rename_i h; rw [h]
  · rfl

@[simp] theorem State.attach_dec (s : State) (r : RxNo) (L K : LineNo) : ((s.attach r L).line K).dec = (s.line K).dec := by
  simp [State.attach]

@[simp] theorem State.handOver_dec (s : State) (r : RxNo) (K : LineNo) : ((s.handOver r).line K).dec = (s.line K).dec := by
  unfold State.handOver
  split <;> simp

@[simp] theorem State.detach_dec (s : State) (r : RxNo) (L K : LineNo) : ((s.detach r L).line K).dec = (s.line K).dec := by
  simp only [State.detach]
  split <;> simp

@[simp] theorem State.release_dec (s : State) (L K : LineNo) : ((s.release L).line K).dec = (s.line K).dec := by
  unfold State.release
  split
  · simp
  · split <;> simp

@[simp] theorem State.request_dec (s : State) (L K : LineNo) : ((s.request L).line K).dec = (s.line K).dec := by
  unfold State.request
  split
  · rfl
  · split <;> simp

@[simp] theorem State.markUntimed_coll (s : State) (L K : LineNo) : ((s.markUntimed L).line K).coll = (s.line K).coll := rfl

@[simp] theorem State.markTimed_coll (s : State) (L K : LineNo) : ((s.markTimed L).line K).coll = (s.line K).coll := by
  show ((s.setMarks L _).line K).coll = _
  rw [State.line_setMarks]
  split
  · rename_i h; rw [h]
  · rfl

@[simp] theorem State.attach_coll (s : State) (r : RxNo) (L K : LineNo) : ((s.attach r L).line K).coll = (s.line K).coll := by
  simp [State.attach]

@[simp] theorem State.handOver_coll (s : State) (r : RxNo) (K : LineNo) : ((s.handOver r).line K).coll = (s.line K).coll := by
  unfold State.handOver
  split <;> simp

@[simp] theorem State.detach_coll (s : State) (r : RxNo) (L K : LineNo) : ((s.detach r L).line K).coll = (s.line K).coll := by
  simp only [State.detach]
  split <;> simp

@[simp] theorem State.release_coll (s : State) (L K : LineNo) : ((s.release L).line K).coll = (s.line K).coll := by
  unfold State.release
  split
  · simp
  · split <;> simp

@[simp] theorem State.request_coll (s : State) (L K : LineNo) : ((s.request L).line K).coll = (s.line K).coll := by
  unfold State.request
  split
  · rfl
  · split <;> simp

@[simp] theorem State.markUntimed_fault (s : State) (L K : LineNo) : ((s.markUntimed L).line K).fault = (s.line K).fault := rfl

@[simp] theorem State.markTimed_fault (s : State) (L K : LineNo) : ((s.markTimed L).line K).fault = (s.line K).fault := by
  show ((s.setMarks L _).line K).fault = _
  rw [State.line_setMarks]
  split
  · rename_i h; rw [h]
  · rfl

@[simp] theorem State.attach_fault (s : State) (r : RxNo) (L K : LineNo) : ((s.attach r L).line K).fault = (s.line K).fault := by
  simp [State.attach]

@[simp] theorem State.handOver_fault (s : State) (r : RxNo) (K : LineNo) : ((s.handOver r).line K).fault = (s.line K).fault := by
  unfold State.handOver
  split <;> simp

@[simp] theorem State.detach_fault (s : State) (r : RxNo) (L K : LineNo) : ((s.detach r L).line K).fault = (s.line K).fault := by
  simp only [State.detach]
  split <;> simp

@[simp] theorem State.release_fault (s : State) (L K : LineNo) : ((s.release L).line K).fault = (s.line K).fault := by
  unfold State.release
  split
  · simp
  · split <;> simp

@[simp] theorem State.request_fault (s : State) (L K : LineNo) : ((s.request L).line K).fault = (s.line K).fault := by
  unfold State.request
  split
  · rfl
  · split <;> simp

@[simp] theorem State.markUntimed_profile (s : State) (L K : LineNo) : ((s.markUntimed L).line K).profile = (s.line K).profile := rfl

@[simp] theorem State.markTimed_profile (s : State) (L K : LineNo) : ((s.markTimed L).line K).profile = (s.line K).profile := by
  show ((s.setMarks L _).line K).profile = _
  rw [State.line_setMarks]
  split
  · rename_i h; rw [h]
  · rfl

@[simp] theorem State.attach_profile (s : State) (r : RxNo) (L K : LineNo) : ((s.attach r L).line K).profile = (s.line K).profile := by
  simp [State.attach]

@[simp] theorem State.handOver_profile (s : State) (r : RxNo) (K : LineNo) : ((s.handOver r).line K).profile = (s.line K).profile := by
  unfold State.handOver
  split <;> simp

@[simp] theorem State.detach_profile (s : State) (r : RxNo) (L K : LineNo) : ((s.detach r L).line K).profile = (s.line K).profile := by
  simp only [State.detach]
  split <;> simp

@[simp] theorem State.release_profile (s : State) (L K : LineNo) : ((s.release L).line K).profile = (s.line K).profile := by
  unfold State.release
  split
  · simp
  · split <;> simp

@[simp] theorem State.request_profile (s : State) (L K : LineNo) : ((s.request L).line K).profile = (s.line K).profile := by
  unfold State.request
  split
  · rfl
  · split <;> simp

@[simp] theorem State.markUntimed_foundAtStart (s : State) (L K : LineNo) : ((s.markUntimed L).line K).marks.foundAtStart = (s.line K).marks.foundAtStart := rfl

@[simp] theorem State.markTimed_foundAtStart (s : State) (L K : LineNo) : ((s.markTimed L).line K).marks.foundAtStart = (s.line K).marks.foundAtStart := by
  show ((s.setMarks L _).line K).marks.foundAtStart = _
  rw [State.line_setMarks]
  split
  · rename_i h; rw [h]
  · rfl

@[simp] theorem State.attach_foundAtStart (s : State) (r : RxNo) (L K : LineNo) : ((s.attach r L).line K).marks.foundAtStart = (s.line K).marks.foundAtStart := by
  simp [State.attach]

@[simp] theorem State.handOver_foundAtStart (s : State) (r : RxNo) (K : LineNo) : ((s.handOver r).line K).marks.foundAtStart = (s.line K).marks.foundAtStart := by
  unfold State.handOver
  split <;> simp

@[simp] theorem State.detach_foundAtStart (s : State) (r : RxNo) (L K : LineNo) : ((s.detach r L).line K).marks.foundAtStart = (s.line K).marks.foundAtStart := by
  simp only [State.detach]
  split <;> simp

@[simp] theorem State.release_foundAtStart (s : State) (L K : LineNo) : ((s.release L).line K).marks.foundAtStart = (s.line K).marks.foundAtStart := by
  unfold State.release
  split
  · simp
  · split <;> simp

@[simp] theorem State.request_foundAtStart (s : State) (L K : LineNo) : ((s.request L).line K).marks.foundAtStart = (s.line K).marks.foundAtStart := by
  unfold State.request
  split
  · rfl
  · split <;> simp

@[simp] theorem State.markUntimed_profileClamped (s : State) (L K : LineNo) : ((s.markUntimed L).line K).marks.profileClamped = (s.line K).marks.profileClamped := rfl

@[simp] theorem State.markTimed_profileClamped (s : State) (L K : LineNo) : ((s.markTimed L).line K).marks.profileClamped = (s.line K).marks.profileClamped := by
  show ((s.setMarks L _).line K).marks.profileClamped = _
  rw [State.line_setMarks]
  split
  · rename_i h; rw [h]
  · rfl

@[simp] theorem State.attach_profileClamped (s : State) (r : RxNo) (L K : LineNo) : ((s.attach r L).line K).marks.profileClamped = (s.line K).marks.profileClamped := by
  simp [State.attach]

@[simp] theorem State.handOver_profileClamped (s : State) (r : RxNo) (K : LineNo) : ((s.handOver r).line K).marks.profileClamped = (s.line K).marks.profileClamped := by
  unfold State.handOver
  split <;> simp

@[simp] theorem State.detach_profileClamped (s : State) (r : RxNo) (L K : LineNo) : ((s.detach r L).line K).marks.profileClamped = (s.line K).marks.profileClamped := by
  simp only [State.detach]
  split <;> simp

@[simp] theorem State.release_profileClamped (s : State) (L K : LineNo) : ((s.release L).line K).marks.profileClamped = (s.line K).marks.profileClamped := by
  unfold State.release
  split
  · simp
  · split <;> simp

@[simp] theorem State.request_profileClamped (s : State) (L K : LineNo) : ((s.request L).line K).marks.profileClamped = (s.line K).marks.profileClamped := by
  unfold State.request
  split
  · rfl
  · split <;> simp

end Sys2Proof.Machine
end

