-- ==== Sys2Proof/Laws/Lines.lean ====
section
/-! SUPPORT. Every operation of one line's blocks leaves the other lines as they are, but for the time of last change of a
line that a hand-over attaches, and everything outside the lines, the pool and the Journal Unit as it is. -/

namespace Sys2Proof.Machine

theorem Line.sameButTime.refl (a : Line) : a.sameButTime a := rfl

theorem Line.sameButTime.trans {a b c : Line} (h : a.sameButTime b) (g : b.sameButTime c) : a.sameButTime c := by
  unfold Line.sameButTime at *
  rw [g, h]

/-- `t` differs from `s` only in line `L`, the times of last change, the pool and the Journal Unit. -/
structure Near (L : LineNo) (s t : State) : Prop where
  within : Within s t
  others : ∀ K, K ≠ L → (s.line K).sameButTime (t.line K)

variable {L : LineNo} {s t : State}

theorem Near.refl (L : LineNo) (s : State) : Near L s s := ⟨.refl s, fun _ _ => rfl⟩

/-- A step that stays within and leaves the other lines as they are. -/
theorem Near.step (h : Near L s t) {u : State} (w : Within t u) (o : ∀ K, K ≠ L → (t.line K).sameButTime (u.line K)) :
    Near L s u :=
  ⟨h.within.trans w, fun K k => (h.others K k).trans (o K k)⟩

theorem Near.trans {u : State} (h : Near L s t) (g : Near L t u) : Near L s u := h.step g.within g.others

theorem Near.setLine (h : Near L s t) (x : Line) : Near L s (t.setLine L x) :=
  h.step (.setLine ..) (fun K k => by rw [State.line_setLine, if_neg k]; rfl)

/-- A step that changes no line but for times of last change. -/
theorem Near.pool (h : Near L s t) {u : State} (w : Within t u) (o : ∀ K, (t.line K).sameButTime (u.line K)) : Near L s u :=
  h.step w (fun K _ => o K)

/-- The parts of a line that make up everything but its time of last change. -/
theorem Line.sameButTime_of_parts {a b : Line} (h1 : b.sup = a.sup) (h2 : b.cond = a.cond) (h3 : b.dec = a.dec)
    (h4 : b.coll = a.coll) (h5 : b.fault = a.fault) (h6 : b.profile = a.profile)
    (h7 : b.marks.foundAtStart = a.marks.foundAtStart) (h8 : b.marks.profileClamped = a.marks.profileClamped) :
    a.sameButTime b := by
  obtain ⟨_, _, _, _, _, _, ⟨_, _, _⟩⟩ := a
  obtain ⟨_, _, _, _, _, _, ⟨_, _, _⟩⟩ := b
  simp_all [Line.sameButTime]

theorem Near.stage (h : Near L s t) (l : Option LineNo) (b : RecordBody) (u : Bool) : Near L s (t.stage l b u) :=
  h.pool (.stage ..) (fun K => by rw [State.stage_line]; rfl)

theorem Near.request (h : Near L s t) (K : LineNo) : Near L s (t.request K) :=
  h.pool (.request ..) (fun _ => by apply Line.sameButTime_of_parts <;> simp)

theorem Near.release (h : Near L s t) (K : LineNo) : Near L s (t.release K) :=
  h.pool (.release ..) (fun _ => by apply Line.sameButTime_of_parts <;> simp)

theorem Near.attach (h : Near L s t) (r : RxNo) (K : LineNo) : Near L s (t.attach r K) :=
  h.pool (.attach ..) (fun _ => by apply Line.sameButTime_of_parts <;> simp)

theorem Near.setReceiver (h : Near L s t) (r : RxNo) (x : Receiver) : Near L s (t.setReceiver r x) :=
  h.pool (.setReceiver ..) (fun _ => rfl)

theorem Near.setQueue (h : Near L s t) (x : List QueueEntry) : Near L s (t.setQueue x) :=
  h.pool (.setQueue ..) (fun _ => rfl)

theorem Near.markUntimed (h : Near L s t) (K : LineNo) : Near L s (t.markUntimed K) :=
  h.pool (.markUntimed ..) (fun _ => rfl)

theorem Near.markTimed (h : Near L s t) (K : LineNo) : Near L s (t.markTimed K) :=
  h.pool (.markTimed ..) (fun _ => by apply Line.sameButTime_of_parts <;> simp)

theorem Near.setSup (h : Near L s t) (x) : Near L s (t.setSup L x) := h.setLine _

theorem Near.setCond (h : Near L s t) (x) : Near L s (t.setCond L x) := h.setLine _

theorem Near.setDec (h : Near L s t) (x) : Near L s (t.setDec L x) := h.setLine _

theorem Near.setColl (h : Near L s t) (x) : Near L s (t.setColl L x) := h.setLine _

theorem Near.setFault (h : Near L s t) (x) : Near L s (t.setFault L x) := h.setLine _

theorem Near.setProfile (h : Near L s t) (x) : Near L s (t.setProfile L x) := h.setLine _

theorem Near.setMarks (h : Near L s t) (x) : Near L s (t.setMarks L x) := h.setLine _

theorem Near.changeHook (h : Near L s t) (x : Hook) : Near L s (t.changeHook L x) := by
  dsimp only [State.changeHook]
  repeat' first
    | with_reducible exact h
    | with_reducible apply Near.markTimed
    | with_reducible apply Near.setMarks
    | with_reducible apply Near.setSup
    | split

theorem Near.openCollection (h : Near L s t) (b : Bool) : Near L s (t.openCollection L b) := by
  dsimp only [State.openCollection]
  repeat' first
    | with_reducible exact h
    | with_reducible apply Near.markTimed
    | with_reducible apply Near.setColl

theorem Near.abandon (h : Near L s t) : Near L s (t.abandon L) := by
  dsimp only [State.abandon]
  repeat' first
    | with_reducible exact h
    | with_reducible apply Near.markTimed
    | with_reducible apply Near.setColl
    | split

theorem Near.complete (h : Near L s t) (r : NumberReason) (e : Option Nat) (u : Bool) : Near L s (t.complete L r e u) := by
  dsimp only [State.complete]
  repeat' first
    | with_reducible exact h
    | with_reducible apply Near.release
    | with_reducible apply Near.markTimed
    | with_reducible apply Near.setColl
    | with_reducible apply Near.stage

theorem Near.appendSymbol (h : Near L s t) (d : Digit) : Near L s (t.appendSymbol L d) := by
  dsimp only [State.appendSymbol]
  repeat' first
    | with_reducible exact h
    | with_reducible apply Near.complete
    | with_reducible apply Near.markTimed
    | with_reducible apply Near.setColl
    | with_reducible apply Near.stage
    | split

theorem Near.takeSymbol (h : Near L s t) (d : Digit) : Near L s (t.takeSymbol L d) := by
  dsimp only [State.takeSymbol]
  repeat' first
    | with_reducible exact h
    | with_reducible apply Near.appendSymbol
    | with_reducible apply Near.stage
    | split

theorem Near.noDigits (h : Near L s t) : Near L s (t.noDigits L) := by
  dsimp only [State.noDigits]
  repeat' first
    | with_reducible exact h
    | with_reducible apply Near.release
    | with_reducible apply Near.markTimed
    | with_reducible apply Near.setColl
    | with_reducible apply Near.stage

theorem Near.collTimeouts (h : Near L s t) (o d : Bool) : Near L s (t.collTimeouts L o d).1 := by
  dsimp only [State.collTimeouts]
  repeat' first
    | with_reducible exact h
    | with_reducible apply Near.noDigits
    | with_reducible apply Near.complete
    | split

theorem Near.collectorStep (h : Near L s t) (e : Nat) (o : Bool) (d : Option Digit) : Near L s (t.collectorStep L e o d).1 := by
  dsimp only [State.collectorStep]
  repeat' first
    | with_reducible exact h
    | with_reducible apply Near.collTimeouts
    | with_reducible apply Near.takeSymbol
    | with_reducible apply Near.setColl
    | split

theorem Near.endTrain (h : Near L s t) : Near L s (t.endTrain L).1 := by
  dsimp only [State.endTrain]
  repeat' first
    | with_reducible exact h
    | with_reducible apply Near.setDec
    | with_reducible apply Near.stage
    | split

theorem Near.decoderStep (h : Near L s t) (o : Outcome) (e : Nat) : Near L s (t.decoderStep L o e).1 := by
  dsimp only [State.decoderStep]
  repeat' first
    | with_reducible exact h
    | with_reducible apply Near.setDec
    | with_reducible apply Near.endTrain
    | with_reducible apply Near.stage
    | split

theorem Near.dropTrain (h : Near L s t) : Near L s (t.dropTrain L) := by
  dsimp only [State.dropTrain]
  repeat' first
    | with_reducible exact h
    | with_reducible apply Near.setDec
    | split

theorem Near.conditionStep (h : Near L s t) (x : Sample) : Near L s (t.conditionStep L x) := by
  dsimp only [State.conditionStep]
  repeat' first
    | with_reducible exact h
    | with_reducible apply Near.setCond

theorem Near.askReseed (h : Near L s t) : Near L s (t.askReseed L) := by
  dsimp only [State.askReseed]
  repeat' first
    | with_reducible exact h
    | with_reducible apply Near.setCond

theorem Near.setBaseline (h : Near L s t) (b : Nat) (x : Bool) : Near L s (t.setBaseline L b x) := by
  dsimp only [State.setBaseline]
  repeat' first
    | with_reducible exact h
    | with_reducible apply Near.markUntimed
    | with_reducible apply Near.setSup
    | split

theorem Near.clearBaseline (h : Near L s t) : Near L s (t.clearBaseline L) := by
  dsimp only [State.clearBaseline]
  repeat' first
    | with_reducible exact h
    | with_reducible apply Near.setBaseline

theorem Near.baselineStep (h : Near L s t) (c : Conditioned) (i : Int) : Near L s (t.baselineStep L c i).1 := by
  dsimp only [State.baselineStep]
  repeat' first
    | with_reducible exact h
    | with_reducible apply Near.setBaseline
    | split

theorem Near.stopTimer (h : Near L s t) : Near L s (t.stopTimer L) := by
  dsimp only [State.stopTimer]
  repeat' first
    | with_reducible exact h
    | with_reducible apply Near.setSup

theorem Near.startTimer (h : Near L s t) : Near L s (t.startTimer L) := by
  dsimp only [State.startTimer]
  repeat' first
    | with_reducible exact h
    | with_reducible apply Near.setSup

theorem Near.clearStartMark (h : Near L s t) : Near L s (t.clearStartMark L) := by
  dsimp only [State.clearStartMark]
  repeat' first
    | with_reducible exact h
    | with_reducible apply Near.setSup

theorem Near.advanceTimer (h : Near L s t) (e : Nat) : Near L s (t.advanceTimer L e) := by
  dsimp only [State.advanceTimer]
  repeat' first
    | with_reducible exact h
    | with_reducible apply Near.setSup

theorem Near.teardown (h : Near L s t) : Near L s (t.teardown L) := by
  dsimp only [State.teardown]
  repeat' first
    | with_reducible exact h
    | with_reducible apply Near.abandon
    | with_reducible apply Near.release
    | with_reducible apply Near.dropTrain

theorem Near.releaseLine (h : Near L s t) (b : Bool) : Near L s (t.releaseLine L b) := by
  dsimp only [State.releaseLine]
  repeat' first
    | with_reducible exact h
    | with_reducible apply Near.stage
    | with_reducible apply Near.changeHook
    | with_reducible apply Near.stopTimer
    | with_reducible apply Near.teardown

theorem Near.park (h : Near L s t) : Near L s (t.park L) := by
  dsimp only [State.park]
  repeat' first
    | with_reducible exact h
    | with_reducible apply Near.stage
    | with_reducible apply Near.release
    | with_reducible apply Near.changeHook
    | with_reducible apply Near.dropTrain
    | split

theorem Near.guardEntry (h : Near L s t) : Near L s (t.guardEntry L) := by
  dsimp only [State.guardEntry]
  repeat' first
    | with_reducible exact h
    | with_reducible apply Near.stage
    | with_reducible apply Near.changeHook
    | with_reducible apply Near.setSup
    | with_reducible apply Near.clearStartMark
    | with_reducible apply Near.stopTimer
    | with_reducible apply Near.teardown
    | split

theorem Near.guardExit (h : Near L s t) : Near L s (t.guardExit L) := by
  dsimp only [State.guardExit]
  repeat' first
    | with_reducible exact h
    | with_reducible apply Near.setSup
    | with_reducible apply Near.clearBaseline
    | with_reducible apply Near.askReseed
    | with_reducible apply Near.changeHook
    | split

theorem Near.blockLine (h : Near L s t) : Near L s (t.blockLine L) := by
  dsimp only [State.blockLine]
  repeat' first
    | with_reducible exact h
    | with_reducible apply Near.changeHook
    | with_reducible apply Near.clearStartMark
    | with_reducible apply Near.teardown
    | split

theorem Near.unblockLine (h : Near L s t) : Near L s (t.unblockLine L) := by
  dsimp only [State.unblockLine]
  repeat' first
    | with_reducible exact h
    | with_reducible apply Near.setSup
    | with_reducible apply Near.clearBaseline
    | with_reducible apply Near.askReseed
    | with_reducible apply Near.changeHook
    | split

theorem Near.connectLine (h : Near L s t) : Near L s (t.connectLine L) := by
  dsimp only [State.connectLine]
  repeat' first
    | with_reducible exact h
    | with_reducible apply Near.changeHook
    | with_reducible apply Near.setSup

theorem Near.returnLine (h : Near L s t) : Near L s (t.returnLine L) := by
  dsimp only [State.returnLine]
  repeat' first
    | with_reducible exact h
    | with_reducible apply Near.askReseed
    | with_reducible apply Near.changeHook

theorem Near.clearFaults (h : Near L s t) : Near L s (t.clearFaults L) := by
  dsimp only [State.clearFaults]
  repeat' first
    | with_reducible exact h
    | with_reducible apply Near.markTimed
    | with_reducible apply Near.setFault
    | split

theorem Near.disableLine (h : Near L s t) : Near L s (t.disableLine L) := by
  dsimp only [State.disableLine]
  repeat' first
    | with_reducible exact h
    | with_reducible apply Near.stage
    | with_reducible apply Near.changeHook
    | with_reducible apply Near.setSup
    | with_reducible apply Near.stopTimer
    | with_reducible apply Near.clearFaults
    | with_reducible apply Near.teardown
    | split

theorem Near.enableLine (h : Near L s t) : Near L s (t.enableLine L) := by
  dsimp only [State.enableLine]
  repeat' first
    | with_reducible exact h
    | with_reducible apply Near.clearStartMark
    | with_reducible apply Near.clearBaseline
    | with_reducible apply Near.askReseed
    | with_reducible apply Near.changeHook

theorem Near.requestIfTone (h : Near L s t) : Near L s (t.requestIfTone L) := by
  dsimp only [State.requestIfTone]
  repeat' first
    | with_reducible exact h
    | with_reducible apply Near.request
    | split

theorem Near.confirmSeizure (h : Near L s t) (x : Sample) : Near L s (t.confirmSeizure L x) := by
  dsimp only [State.confirmSeizure]
  repeat' first
    | with_reducible exact h
    | with_reducible apply Near.requestIfTone
    | with_reducible apply Near.openCollection
    | with_reducible apply Near.clearStartMark
    | with_reducible apply Near.markUntimed
    | with_reducible apply Near.setMarks
    | with_reducible apply Near.stage
    | with_reducible apply Near.changeHook
    | with_reducible apply Near.stopTimer
    | split

theorem Near.flashLine (h : Near L s t) (n : Nat) : Near L s (t.flashLine L n) := by
  dsimp only [State.flashLine]
  repeat' first
    | with_reducible exact h
    | with_reducible apply Near.requestIfTone
    | with_reducible apply Near.stage
    | with_reducible apply Near.openCollection
    | with_reducible apply Near.dropTrain

theorem Near.beginBreak (h : Near L s t) (x : Hook) : Near L s (t.beginBreak L x) := by
  dsimp only [State.beginBreak]
  repeat' first
    | with_reducible exact h
    | with_reducible apply Near.changeHook
    | with_reducible apply Near.setSup
    | with_reducible apply Near.startTimer

theorem Near.endBreak (h : Near L s t) : Near L s (t.endBreak L).1 := by
  dsimp only [State.endBreak]
  repeat' first
    | with_reducible exact h
    | with_reducible apply Near.flashLine
    | with_reducible apply Near.changeHook
    | with_reducible apply Near.stopTimer
    | split

theorem Near.hookStep (h : Near L s t) (x : Sample) (f : LoopState) : Near L s (t.hookStep L x f).1 := by
  dsimp only [State.hookStep]
  repeat' first
    | with_reducible exact h
    | with_reducible apply Near.changeHook
    | with_reducible apply Near.startTimer
    | with_reducible apply Near.clearStartMark
    | with_reducible apply Near.stopTimer
    | with_reducible apply Near.confirmSeizure
    | with_reducible apply Near.beginBreak
    | with_reducible apply Near.releaseLine
    | with_reducible apply Near.endBreak
    | split

theorem Near.storeCondition (h : Near L s t) (c : Condition) (r : CondRecord) : Near L s (t.storeCondition L c r) := by
  dsimp only [State.storeCondition]
  repeat' first
    | with_reducible exact h
    | with_reducible apply Near.markTimed
    | with_reducible apply Near.setFault
    | split

theorem Near.reportCondition (h : Near L s t) (c : Condition) (o : CondRecord) (f : CondEffect) (k : Hook) (v : Nat) (u : Bool) : Near L s (t.reportCondition L c o f k v u) := by
  dsimp only [State.reportCondition]
  repeat' first
    | with_reducible exact h
    | with_reducible apply Near.stage
    | split

theorem Near.evalCondition (h : Near L s t) (c : Condition) (p : Bool) (e : Nat) (k : Hook) (v : Nat) : Near L s (t.evalCondition L c p e k v).1 := by
  dsimp only [State.evalCondition]
  repeat' first
    | with_reducible exact h
    | with_reducible apply Near.reportCondition
    | with_reducible apply Near.storeCondition

theorem Near.evalCross (h : Near L s t) (x : Sample) (k : Hook) : Near L s (t.evalCross L x k).1 := by
  dsimp only [State.evalCross]
  repeat' first
    | with_reducible exact h
    | with_reducible apply Near.reportCondition
    | with_reducible apply Near.storeCondition
    | with_reducible apply Near.setFault

theorem Near.evalIf (h : Near L s t) (b : Bool) (c : Condition) (p : Bool) (e : Nat) (k : Hook) (v : Nat) :
    Near L s (t.evalIf b L c p e k v).1 := by
  unfold State.evalIf
  split
  · exact h.evalCondition ..
  · exact h

theorem Near.faultConditions (h : Near L s t) (x : Sample) (c : Conditioned) (k : Hook) (b : Bool) : Near L s (t.faultConditions L x c k b).1 := by
  dsimp only [State.faultConditions]
  repeat' first
    | with_reducible exact h
    | with_reducible apply Near.evalIf
    | with_reducible apply Near.evalCross
    | with_reducible apply Near.setFault

theorem Near.guardRequest (h : Near L s t) (r : GuardRequest) : Near L s (t.guardRequest L r) := by
  dsimp only [State.guardRequest]
  repeat' first
    | with_reducible exact h
    | with_reducible apply Near.guardEntry
    | with_reducible apply Near.guardExit
    | split

theorem Near.testRaise (h : Near L s t) (f : Finding) (r : Int) : Near L s (t.testRaise L f r) := by
  dsimp only [State.testRaise]
  repeat' first
    | with_reducible exact h
    | with_reducible apply Near.stage
    | with_reducible apply Near.markTimed
    | with_reducible apply Near.setFault
    | split

theorem Near.windowStep (h : Near L s t) (r : RxNo) (e : Nat) : Near L s (t.windowStep L r e).1 := by
  dsimp only [State.windowStep]
  repeat' first
    | with_reducible exact h
    | with_reducible apply Near.release
    | with_reducible apply Near.stage
    | with_reducible apply Near.setReceiver
    | split

theorem Near.waitStep (h : Near L s t) (q : QueueEntry) (e : Nat) : Near L s (t.waitStep L q e).1 := by
  dsimp only [State.waitStep]
  repeat' first
    | with_reducible exact h
    | with_reducible apply Near.stage
    | with_reducible apply Near.setQueue
    | split

theorem Near.poolStep (h : Near L s t) (e : Nat) (b : Bool) : Near L s (t.poolStep L e b).1 := by
  dsimp only [State.poolStep]
  repeat' first
    | with_reducible exact h
    | with_reducible apply Near.windowStep
    | with_reducible apply Near.waitStep
    | split

theorem Near.parkIf (h : Near L s t) (b : Bool) : Near L s (t.parkIf L b) := by
  dsimp only [State.parkIf]
  repeat' first
    | with_reducible exact h
    | with_reducible apply Near.park
    | split

theorem Near.takeSample (h : Near L s t) (x : Sample) : Near L s (t.takeSample L x).1 := by
  dsimp only [State.takeSample]
  repeat' first
    | with_reducible exact h
    | with_reducible apply Near.guardRequest
    | with_reducible apply Near.faultConditions
    | with_reducible apply Near.poolStep
    | with_reducible apply Near.parkIf
    | with_reducible apply Near.collectorStep
    | with_reducible apply Near.decoderStep
    | with_reducible apply Near.baselineStep
    | with_reducible apply Near.hookStep
    | with_reducible apply Near.advanceTimer
    | with_reducible apply Near.conditionStep
    | split

end Sys2Proof.Machine
end

