-- ==== Sys2Proof/Laws/Port.lean ====
section
/-! SUPPORT. What the port does at the end of a command leaves alone, and what it can do to the control state. -/

namespace Sys2Proof.Machine

/-- `t` is `s` with at most the port, the last grant, the causes, the entry to FROZEN, the Journal Unit's sequence, its
dirty set and its batch absolute timer changed. -/
structure Settles (s t : State) : Prop where
  time : t.time = s.time
  strobeOut : t.strobeOut = s.strobeOut
  links : t.links = s.links
  lines : t.lines = s.lines
  highway : t.highway = s.highway
  pool : t.pool = s.pool
  plan : t.plan = s.plan
  settings : t.settings = s.settings
  geometry : t.geometry = s.geometry
  executor : t.executor = s.executor
  test : t.test = s.test
  pending : t.pending = s.pending
  queue : t.journal.queue = s.journal.queue
  full : t.journal.full = s.journal.full
  roomLow : t.journal.roomLow = s.journal.roomLow
  nextIndex : t.journal.nextIndex = s.journal.nextIndex
  batchOwed : t.journal.batchOwed = s.journal.batchOwed
  recheckOwed : t.journal.recheckOwed = s.journal.recheckOwed
  delay : t.journal.delay = s.journal.delay
  dropped : t.journal.dropped = s.journal.dropped
  gapSet : t.journal.gapSet = s.journal.gapSet
  firstDrop : t.journal.firstDrop = s.journal.firstDrop
  areaBase : t.run.areaBase = s.run.areaBase
  enables : t.run.enables = s.run.enables
  startResult : t.run.startResult = s.run.startResult
  freezeAsked : t.run.freezeAsked = s.run.freezeAsked
  failed : t.run.failed = s.run.failed
  start : t.run.start = s.run.start
  control : t.run.control = s.run.control ∨ (s.run.control = .running ∧ t.run.control = .frozen)

theorem Settles.refl (s : State) : Settles s s :=
  ⟨rfl, rfl, rfl, rfl, rfl, rfl, rfl, rfl, rfl, rfl, rfl, rfl, rfl, rfl, rfl, rfl, rfl, rfl, rfl, rfl, rfl, rfl,
      rfl, rfl, rfl, rfl, rfl, rfl, .inl rfl⟩

theorem Settles.occupy (s : State) (u : MemUnit) (q : Request) : Settles s (s.occupy u q) :=
  ⟨rfl, rfl, rfl, rfl, rfl, rfl, rfl, rfl, rfl, rfl, rfl, rfl, rfl, rfl, rfl, rfl, rfl, rfl, rfl, rfl, rfl, rfl,
      rfl, rfl, rfl, rfl, rfl, rfl, .inl rfl⟩

theorem Settles.journalGranted (s : State) : Settles s s.journalGranted := by
  unfold State.journalGranted
  split
  · split
    · exact ⟨rfl, rfl, rfl, rfl, rfl, rfl, rfl, rfl, rfl, rfl, rfl, rfl, rfl, rfl, rfl, rfl, rfl, rfl, rfl, rfl,
        rfl, rfl, rfl, rfl, rfl, rfl, rfl, rfl, .inl rfl⟩
    · exact ⟨rfl, rfl, rfl, rfl, rfl, rfl, rfl, rfl, rfl, rfl, rfl, rfl, rfl, rfl, rfl, rfl, rfl, rfl, rfl, rfl,
        rfl, rfl, rfl, rfl, rfl, rfl, rfl, rfl, .inl rfl⟩
  · exact .refl s

theorem Settles.grantJournal (s : State) (q : Request) : Settles s (s.grantJournal q) := by
  have h := Settles.journalGranted s
  exact ⟨h.time, h.strobeOut, h.links, h.lines, h.highway, h.pool, h.plan, h.settings, h.geometry, h.executor,
      h.test, h.pending, h.queue, h.full, h.roomLow, h.nextIndex, h.batchOwed, h.recheckOwed, h.delay, h.dropped,
      h.gapSet, h.firstDrop, h.areaBase, h.enables, h.startResult, h.freezeAsked, h.failed, h.start, h.control⟩

theorem Settles.grantExecutor (s : State) (q : Request) : Settles s (s.grantExecutor q) :=
  ⟨rfl, rfl, rfl, rfl, rfl, rfl, rfl, rfl, rfl, rfl, rfl, rfl, rfl, rfl, rfl, rfl, rfl, rfl, rfl, rfl, rfl, rfl,
      rfl, rfl, rfl, rfl, rfl, rfl, .inl rfl⟩

theorem Settles.grantShared (s : State) : Settles s s.grantShared := by
  unfold State.grantShared
  split
  · split
    · exact .grantExecutor ..
    · exact .grantJournal ..
  · exact .grantJournal ..
  · exact .grantExecutor ..
  · exact .refl s

theorem Settles.grantStart (s : State) : Settles s s.grantStart := by
  unfold State.grantStart
  split
  · exact .occupy ..
  · exact .refl s

theorem Settles.beginFinal (s : State) : Settles s s.beginFinal := by
  unfold State.beginFinal
  split
  · exact ⟨rfl, rfl, rfl, rfl, rfl, rfl, rfl, rfl, rfl, rfl, rfl, rfl, rfl, rfl, rfl, rfl, rfl, rfl, rfl, rfl, rfl,
      rfl, rfl, rfl, rfl, rfl, rfl, rfl, .inl rfl⟩
  · exact .refl s

/-- All that `settle` can do. -/
theorem Settles.settle (s : State) : Settles s s.settle := by
  unfold State.settle
  split
  · exact .refl s
  · split
    · exact .grantStart s
    · rename_i hc
      split
      · exact ⟨rfl, rfl, rfl, rfl, rfl, rfl, rfl, rfl, rfl, rfl, rfl, rfl, rfl, rfl, rfl, rfl, rfl, rfl, rfl, rfl,
          rfl, rfl, rfl, rfl, rfl, rfl, rfl, rfl, .inr ⟨hc, rfl⟩⟩
      · exact .grantShared s
    · have a := Settles.beginFinal s
      have b := Settles.grantShared s.beginFinal
      have c : s.beginFinal.run = s.run := by unfold State.beginFinal; split <;> rfl
      exact ⟨b.time.trans a.time, b.strobeOut.trans a.strobeOut, b.links.trans a.links, b.lines.trans a.lines,
          b.highway.trans a.highway, b.pool.trans a.pool, b.plan.trans a.plan, b.settings.trans a.settings,
          b.geometry.trans a.geometry, b.executor.trans a.executor, b.test.trans a.test, b.pending.trans a.pending,
          b.queue.trans a.queue, b.full.trans a.full, b.roomLow.trans a.roomLow, b.nextIndex.trans a.nextIndex,
          b.batchOwed.trans a.batchOwed, b.recheckOwed.trans a.recheckOwed, b.delay.trans a.delay, b.dropped.trans
          a.dropped, b.gapSet.trans a.gapSet, b.firstDrop.trans a.firstDrop, b.areaBase.trans a.areaBase,
          b.enables.trans a.enables, b.startResult.trans a.startResult, b.freezeAsked.trans a.freezeAsked,
          b.failed.trans a.failed, b.start.trans a.start, by rw [← c]; exact b.control⟩
    · exact .refl s

@[simp] theorem State.settle_time (s : State) : s.settle.time = s.time := (Settles.settle s).time
@[simp] theorem State.settle_strobeOut (s : State) : s.settle.strobeOut = s.strobeOut := (Settles.settle s).strobeOut
@[simp] theorem State.settle_links (s : State) : s.settle.links = s.links := (Settles.settle s).links
@[simp] theorem State.settle_lines (s : State) : s.settle.lines = s.lines := (Settles.settle s).lines
@[simp] theorem State.settle_highway (s : State) : s.settle.highway = s.highway := (Settles.settle s).highway
@[simp] theorem State.settle_pool (s : State) : s.settle.pool = s.pool := (Settles.settle s).pool
@[simp] theorem State.settle_plan (s : State) : s.settle.plan = s.plan := (Settles.settle s).plan
@[simp] theorem State.settle_settings (s : State) : s.settle.settings = s.settings := (Settles.settle s).settings
@[simp] theorem State.settle_geometry (s : State) : s.settle.geometry = s.geometry := (Settles.settle s).geometry
@[simp] theorem State.settle_executor (s : State) : s.settle.executor = s.executor := (Settles.settle s).executor
@[simp] theorem State.settle_test (s : State) : s.settle.test = s.test := (Settles.settle s).test
@[simp] theorem State.settle_pending (s : State) : s.settle.pending = s.pending := (Settles.settle s).pending
@[simp] theorem State.settle_queue (s : State) : s.settle.journal.queue = s.journal.queue := (Settles.settle s).queue
@[simp] theorem State.settle_full (s : State) : s.settle.journal.full = s.journal.full := (Settles.settle s).full
@[simp] theorem State.settle_roomLow (s : State) : s.settle.journal.roomLow = s.journal.roomLow := (Settles.settle s).roomLow
@[simp] theorem State.settle_nextIndex (s : State) : s.settle.journal.nextIndex = s.journal.nextIndex := (Settles.settle s).nextIndex
@[simp] theorem State.settle_batchOwed (s : State) : s.settle.journal.batchOwed = s.journal.batchOwed := (Settles.settle s).batchOwed
@[simp] theorem State.settle_recheckOwed (s : State) : s.settle.journal.recheckOwed = s.journal.recheckOwed := (Settles.settle s).recheckOwed
@[simp] theorem State.settle_delay (s : State) : s.settle.journal.delay = s.journal.delay := (Settles.settle s).delay
@[simp] theorem State.settle_dropped (s : State) : s.settle.journal.dropped = s.journal.dropped := (Settles.settle s).dropped
@[simp] theorem State.settle_gapSet (s : State) : s.settle.journal.gapSet = s.journal.gapSet := (Settles.settle s).gapSet
@[simp] theorem State.settle_firstDrop (s : State) : s.settle.journal.firstDrop = s.journal.firstDrop := (Settles.settle s).firstDrop
@[simp] theorem State.settle_areaBase (s : State) : s.settle.run.areaBase = s.run.areaBase := (Settles.settle s).areaBase
@[simp] theorem State.settle_enables (s : State) : s.settle.run.enables = s.run.enables := (Settles.settle s).enables
@[simp] theorem State.settle_startResult (s : State) : s.settle.run.startResult = s.run.startResult := (Settles.settle s).startResult
@[simp] theorem State.settle_freezeAsked (s : State) : s.settle.run.freezeAsked = s.run.freezeAsked := (Settles.settle s).freezeAsked
@[simp] theorem State.settle_failed (s : State) : s.settle.run.failed = s.run.failed := (Settles.settle s).failed
@[simp] theorem State.settle_start (s : State) : s.settle.run.start = s.run.start := (Settles.settle s).start

@[simp] theorem State.settle_line (s : State) (L : LineNo) : s.settle.line L = s.line L := by
  unfold State.line; simp

@[simp] theorem State.settle_link (s : State) (g : LinkNo) : s.settle.link g = s.link g := by
  unfold State.link; simp

@[simp] theorem State.settle_receiver (s : State) (r : RxNo) : s.settle.receiver r = s.receiver r := by
  unfold State.receiver; simp

/-- With the port BUSY nothing is granted. -/
theorem State.settle_of_busy {s : State} {a : Access} {l : Bool} (h : s.run.port = .busy a l) : s.settle = s := by
  unfold State.settle; rw [h]

/-- Outside STARTING, RUNNING and STOPPING the port does nothing (R172). -/
theorem State.settle_of_idle {s : State} (h1 : s.run.control ≠ .starting) (h2 : s.run.control ≠ .running)
    (h3 : s.run.control ≠ .stopping) : s.settle = s := by
  unfold State.settle
  split
  · rfl
  · split
    · exact absurd ‹_› h1
    · exact absurd ‹_› h2
    · exact absurd ‹_› h3
    · rfl

end Sys2Proof.Machine
end

