-- ==== Sys2Proof/Laws/Keeps.lean ====
section
/-! SUPPORT. No operation of the shared blocks touches cabinet time, the strobe output, the queue of commands, the area
base or the enables: those have commands of their own. -/

namespace Sys2Proof.Machine

/-- `t` holds the same cabinet time, strobe output, waiting commands, area base and enables as `s`. -/
structure Keeps (s t : State) : Prop where
  time : t.time = s.time
  strobeOut : t.strobeOut = s.strobeOut
  pending : t.pending = s.pending
  areaBase : t.run.areaBase = s.run.areaBase
  enables : t.run.enables = s.run.enables

variable {s t : State}

theorem Keeps.refl (s : State) : Keeps s s := ⟨rfl, rfl, rfl, rfl, rfl⟩

theorem Keeps.trans {u : State} (h : Keeps s t) (g : Keeps t u) : Keeps s u :=
  ⟨g.time.trans h.time, g.strobeOut.trans h.strobeOut, g.pending.trans h.pending, g.areaBase.trans h.areaBase,
    g.enables.trans h.enables⟩

theorem Within.keeps (h : Within s t) : Keeps s t := by
  refine ⟨h.time, h.strobeOut, h.pending, ?_, ?_⟩ <;> rw [h.run]

theorem Near.keeps {L : LineNo} (h : Near L s t) : Keeps s t := h.within.keeps

theorem Settles.keeps (h : Settles s t) : Keeps s t := ⟨h.time, h.strobeOut, h.pending, h.areaBase, h.enables⟩

/-- A change of the causes alone. -/
theorem Keeps.raiseCause (h : Keeps s t) (c : Cause) : Keeps s (t.raiseCause c) := h.trans ⟨rfl, rfl, rfl, rfl, rfl⟩

theorem Keeps.settle (h : Keeps s t) : Keeps s t.settle := h.trans (Settles.settle t).keeps

theorem Keeps.enterStopped (h : Keeps s t) : Keeps s t.enterStopped := h.trans ⟨rfl, rfl, rfl, rfl, rfl⟩

theorem Keeps.enterRunning (h : Keeps s t) : Keeps s t.enterRunning := h.trans ⟨rfl, rfl, rfl, rfl, rfl⟩

theorem Keeps.beginEntries (h : Keeps s t) : Keeps s t.beginEntries := h.trans ⟨rfl, rfl, rfl, rfl, rfl⟩

theorem Keeps.occupy (h : Keeps s t) (u : MemUnit) (q : Request) : Keeps s (t.occupy u q) :=
  h.trans (Settles.occupy ..).keeps

theorem Keeps.mapReceivers (h : Keeps s t) (f : Receiver → Receiver) : Keeps s (t.mapReceivers f) :=
  h.trans ⟨rfl, rfl, rfl, rfl, rfl⟩

theorem Keeps.trigger (h : Keeps s t) : Keeps s t.trigger := h.trans (Within.trigger t).keeps

theorem Keeps.beginBatch (h : Keeps s t) (k : WorkKind) : Keeps s (t.beginBatch k) := h.trans (Within.beginBatch t k).keeps

theorem Keeps.handOver (h : Keeps s t) (r : RxNo) : Keeps s (t.handOver r) := h.trans (Within.handOver t r).keeps

theorem Keeps.stage (h : Keeps s t) (l : Option LineNo) (b : RecordBody) (u : Bool) : Keeps s (t.stage l b u) :=
  h.trans (Within.stage ..).keeps

theorem Keeps.append (h : Keeps s t) (l : Option LineNo) (b : RecordBody) (u : Bool) : Keeps s (t.append l b u) := by
  have k : ∀ x : Journal, Keeps s (t.setJournal x) := fun x => h.trans ⟨rfl, rfl, rfl, rfl, rfl⟩
  dsimp only [State.append]
  split
  · exact (k _).trigger
  · exact k _

theorem Keeps.releaseTo (h : Keeps s t) (L : LineNo) : Keeps s (t.release L) := h.trans (Within.release t L).keeps

theorem Keeps.setJournal (h : Keeps s t) (x : Journal) : Keeps s (t.setJournal x) := h.trans ⟨rfl, rfl, rfl, rfl, rfl⟩

theorem Keeps.setExecutor (h : Keeps s t) (x : Executor) : Keeps s (t.setExecutor x) := h.trans ⟨rfl, rfl, rfl, rfl, rfl⟩

theorem Keeps.setTest (h : Keeps s t) (x : TestEngine) : Keeps s (t.setTest x) := h.trans ⟨rfl, rfl, rfl, rfl, rfl⟩

theorem Keeps.setHighway (h : Keeps s t) (x : Highway) : Keeps s (t.setHighway x) := h.trans ⟨rfl, rfl, rfl, rfl, rfl⟩

theorem Keeps.setLink (h : Keeps s t) (g : LinkNo) (x : Link) : Keeps s (t.setLink g x) := h.trans ⟨rfl, rfl, rfl, rfl, rfl⟩

theorem Keeps.setReceiver (h : Keeps s t) (r : RxNo) (x : Receiver) : Keeps s (t.setReceiver r x) := h.trans ⟨rfl, rfl, rfl, rfl, rfl⟩

theorem Keeps.atPhase (h : Keeps s t) (x : ExecPhase) : Keeps s (t.atPhase x) := h.trans ⟨rfl, rfl, rfl, rfl, rfl⟩

theorem Keeps.setProfile (h : Keeps s t) (L : LineNo) (x : Profile) : Keeps s (t.setProfile L x) := h.trans ⟨rfl, rfl, rfl, rfl, rfl⟩

theorem Keeps.setMarks (h : Keeps s t) (L : LineNo) (x : EntryMarks) : Keeps s (t.setMarks L x) := h.trans ⟨rfl, rfl, rfl, rfl, rfl⟩

theorem Keeps.setDec (h : Keeps s t) (L : LineNo) (x : PulseDecoder) : Keeps s (t.setDec L x) := h.trans ⟨rfl, rfl, rfl, rfl, rfl⟩

theorem Keeps.markUntimed (h : Keeps s t) (L : LineNo) : Keeps s (t.markUntimed L) := h.trans ⟨rfl, rfl, rfl, rfl, rfl⟩

theorem Keeps.freePort (h : Keeps s t) : Keeps s t.freePort := h.trans ⟨rfl, rfl, rfl, rfl, rfl⟩

theorem Keeps.enterFrozen (h : Keeps s t) : Keeps s t.enterFrozen := h.trans ⟨rfl, rfl, rfl, rfl, rfl⟩

theorem Keeps.beginRecheck (h : Keeps s t) : Keeps s t.beginRecheck := h.trans ⟨rfl, rfl, rfl, rfl, rfl⟩

theorem Keeps.takeSample (h : Keeps s t) (L : LineNo) (x : Sample) : Keeps s (t.takeSample L x).1 := h.trans (Near.takeSample (.refl L t) _).keeps

theorem Keeps.takeSymbol (h : Keeps s t) (L : LineNo) (d : Digit) : Keeps s (t.takeSymbol L d) := h.trans (Near.takeSymbol (.refl L t) _).keeps

theorem Keeps.setBaseline (h : Keeps s t) (L : LineNo) (b : Nat) (x : Bool) : Keeps s (t.setBaseline L b x) := h.trans (Near.setBaseline (.refl L t) _ _).keeps

theorem Keeps.guardExit (h : Keeps s t) (L : LineNo) : Keeps s (t.guardExit L) := h.trans (Near.guardExit (.refl L t)).keeps

theorem Keeps.blockLine (h : Keeps s t) (L : LineNo) : Keeps s (t.blockLine L) := h.trans (Near.blockLine (.refl L t)).keeps

theorem Keeps.unblockLine (h : Keeps s t) (L : LineNo) : Keeps s (t.unblockLine L) := h.trans (Near.unblockLine (.refl L t)).keeps

theorem Keeps.request (h : Keeps s t) (L : LineNo) : Keeps s (t.request L) := h.trans (Within.request t L).keeps

theorem Keeps.openCollection (h : Keeps s t) (L : LineNo) (b : Bool) : Keeps s (t.openCollection L b) := h.trans (Near.openCollection (.refl L t) _).keeps

theorem Keeps.requestIfTone (h : Keeps s t) (L : LineNo) : Keeps s (t.requestIfTone L) := h.trans (Near.requestIfTone (.refl L t)).keeps

theorem Keeps.connectLine (h : Keeps s t) (L : LineNo) : Keeps s (t.connectLine L) := h.trans (Near.connectLine (.refl L t)).keeps

theorem Keeps.returnLine (h : Keeps s t) (L : LineNo) : Keeps s (t.returnLine L) := h.trans (Near.returnLine (.refl L t)).keeps

theorem Keeps.disableLine (h : Keeps s t) (L : LineNo) : Keeps s (t.disableLine L) := h.trans (Near.disableLine (.refl L t)).keeps

theorem Keeps.enableLine (h : Keeps s t) (L : LineNo) : Keeps s (t.enableLine L) := h.trans (Near.enableLine (.refl L t)).keeps

theorem Keeps.testRaise (h : Keeps s t) (L : LineNo) (f : Finding) (r : Int) : Keeps s (t.testRaise L f r) := h.trans (Near.testRaise (.refl L t) _ _).keeps

theorem Keeps.askReseed (h : Keeps s t) (L : LineNo) : Keeps s (t.askReseed L) := h.trans (Near.askReseed (.refl L t)).keeps

theorem Keeps.workAt (h : Keeps s t) (w : Work) (x : WorkStep) : Keeps s (t.workAt w x) := by
  dsimp only [State.workAt]
  repeat' first
    | with_reducible exact h
    | with_reducible apply Keeps.setJournal

theorem Keeps.stageGap (h : Keeps s t) : Keeps s t.stageGap := by
  dsimp only [State.stageGap]
  repeat' first
    | with_reducible exact h
    | with_reducible apply Keeps.append
    | with_reducible apply Keeps.setJournal
    | with_reducible exact h.trans ⟨rfl, rfl, rfl, rfl, rfl⟩
    | split

theorem Keeps.afterRecords (h : Keeps s t) (w : Work) : Keeps s (t.afterRecords w) := by
  dsimp only [State.afterRecords]
  repeat' first
    | with_reducible exact h
    | with_reducible apply Keeps.workAt
    | with_reducible apply Keeps.setJournal
    | with_reducible exact h.trans ⟨rfl, rfl, rfl, rfl, rfl⟩
    | split

theorem Keeps.recordWritten (h : Keeps s t) (w : Work) : Keeps s (t.recordWritten w) := by
  dsimp only [State.recordWritten]
  repeat' first
    | with_reducible exact h
    | with_reducible apply Keeps.afterRecords
    | with_reducible apply Keeps.workAt
    | with_reducible apply Keeps.stageGap
    | with_reducible apply Keeps.setJournal
    | with_reducible exact h.trans ⟨rfl, rfl, rfl, rfl, rfl⟩
    | split

theorem Keeps.raiseIfNew (h : Keeps s t) (o : Bool) (c : Cause) : Keeps s (t.raiseIfNew o c) := by
  dsimp only [State.raiseIfNew]
  repeat' first
    | with_reducible exact h
    | with_reducible apply Keeps.raiseCause
    | with_reducible exact h.trans ⟨rfl, rfl, rfl, rfl, rfl⟩
    | split

theorem Keeps.foundFull (h : Keeps s t) (w : Work) : Keeps s (t.foundFull w) := by
  dsimp only [State.foundFull]
  repeat' first
    | with_reducible exact h
    | with_reducible apply Keeps.afterRecords
    | with_reducible apply Keeps.raiseIfNew
    | with_reducible apply Keeps.setJournal

theorem Keeps.roomChecked (h : Keeps s t) (w : Work) (d : List Byte) : Keeps s (t.roomChecked w d) := by
  dsimp only [State.roomChecked]
  repeat' first
    | with_reducible exact h
    | with_reducible apply Keeps.workAt
    | with_reducible apply Keeps.raiseIfNew
    | with_reducible apply Keeps.setJournal
    | with_reducible exact h.trans ⟨rfl, rfl, rfl, rfl, rfl⟩
    | split

theorem Keeps.owedWork (h : Keeps s t) : Keeps s t.owedWork := by
  dsimp only [State.owedWork]
  repeat' first
    | with_reducible exact h
    | with_reducible apply Keeps.beginBatch
    | with_reducible apply Keeps.beginRecheck
    | with_reducible apply Keeps.setJournal
    | with_reducible exact h.trans ⟨rfl, rfl, rfl, rfl, rfl⟩
    | split

theorem Keeps.restartAbsolute (h : Keeps s t) : Keeps s t.restartAbsolute := by
  dsimp only [State.restartAbsolute]
  repeat' first
    | with_reducible exact h
    | with_reducible apply Keeps.setJournal
    | with_reducible exact h.trans ⟨rfl, rfl, rfl, rfl, rfl⟩
    | split

theorem Keeps.endWork (h : Keeps s t) (w : Work) : Keeps s (t.endWork w) := by
  dsimp only [State.endWork]
  repeat' first
    | with_reducible exact h
    | with_reducible apply Keeps.owedWork
    | with_reducible apply Keeps.enterStopped
    | with_reducible apply Keeps.restartAbsolute
    | with_reducible apply Keeps.setJournal
    | with_reducible apply Keeps.raiseCause
    | with_reducible exact h.trans ⟨rfl, rfl, rfl, rfl, rfl⟩
    | split

theorem Keeps.recovered (h : Keeps s t) : Keeps s t.recovered := by
  dsimp only [State.recovered]
  split
  · exact h.setJournal _
  · exact (h.setJournal _).beginBatch _

theorem Keeps.stillFull (h : Keeps s t) (w : Work) : Keeps s (t.stillFull w) := (h.setJournal _).workAt ..

theorem Keeps.ownerRead (h : Keeps s t) (w : Work) (d : List Byte) : Keeps s (t.ownerRead w d) := by
  dsimp only [State.ownerRead]
  repeat' first
    | with_reducible exact h
    | with_reducible apply Keeps.recovered
    | with_reducible apply Keeps.stillFull
    | with_reducible apply Keeps.workAt
    | with_reducible apply Keeps.foundFull
    | with_reducible exact h.trans ⟨rfl, rfl, rfl, rfl, rfl⟩
    | split

theorem Keeps.journalDone (h : Keeps s t) (d : List Byte) : Keeps s (t.journalDone d) := by
  dsimp only [State.journalDone]
  repeat' first
    | with_reducible exact h
    | with_reducible apply Keeps.ownerRead
    | with_reducible apply Keeps.workAt
    | with_reducible apply Keeps.recordWritten
    | with_reducible apply Keeps.roomChecked
    | with_reducible apply Keeps.endWork
    | with_reducible exact h.trans ⟨rfl, rfl, rfl, rfl, rfl⟩
    | split

theorem Keeps.journalPoll (h : Keeps s t) : Keeps s t.journalPoll := by
  dsimp only [State.journalPoll]
  repeat' first
    | with_reducible exact h
    | with_reducible apply Keeps.beginRecheck
    | with_reducible apply Keeps.setJournal
    | with_reducible exact h.trans ⟨rfl, rfl, rfl, rfl, rfl⟩
    | split

theorem Keeps.becomeIdle (h : Keeps s t) : Keeps s t.becomeIdle := by
  dsimp only [State.becomeIdle]
  repeat' first
    | with_reducible exact h
    | with_reducible apply Keeps.atPhase
    | with_reducible apply Keeps.setExecutor
    | split

theorem Keeps.executorPoll (h : Keeps s t) : Keeps s t.executorPoll := by
  dsimp only [State.executorPoll]
  repeat' first
    | with_reducible exact h
    | with_reducible apply Keeps.atPhase
    | with_reducible apply Keeps.setExecutor
    | with_reducible exact h.trans ⟨rfl, rfl, rfl, rfl, rfl⟩
    | split

theorem Keeps.owedLook (h : Keeps s t) : Keeps s t.owedLook := by
  dsimp only [State.owedLook]
  repeat' first
    | with_reducible exact h
    | with_reducible apply Keeps.setExecutor
    | with_reducible exact h.trans ⟨rfl, rfl, rfl, rfl, rfl⟩
    | split

theorem Keeps.returned (h : Keeps s t) : Keeps s t.returned := by
  dsimp only [State.returned]
  repeat' first
    | with_reducible exact h
    | with_reducible apply Keeps.owedLook
    | with_reducible apply Keeps.owedWork

theorem Keeps.lookDone (h : Keeps s t) (a b : Bool) : Keeps s (t.lookDone a b) := by
  dsimp only [State.lookDone]
  repeat' first
    | with_reducible exact h
    | with_reducible apply Keeps.atPhase
    | with_reducible exact h.trans ⟨rfl, rfl, rfl, rfl, rfl⟩
    | split

theorem Keeps.completeOrder (h : Keeps s t) (r : OrderResult) : Keeps s (t.completeOrder r) := by
  dsimp only [State.completeOrder]
  repeat' first
    | with_reducible exact h
    | with_reducible apply Keeps.setExecutor
    | with_reducible exact h.trans ⟨rfl, rfl, rfl, rfl, rfl⟩
    | split

theorem Keeps.orderBlock (h : Keeps s t) (L : LineNo) : Keeps s (t.orderBlock L) := by
  dsimp only [State.orderBlock]
  repeat' first
    | with_reducible exact h
    | with_reducible apply Keeps.completeOrder
    | with_reducible apply Keeps.blockLine

theorem Keeps.orderUnblock (h : Keeps s t) (L : LineNo) : Keeps s (t.orderUnblock L) := by
  dsimp only [State.orderUnblock]
  repeat' first
    | with_reducible exact h
    | with_reducible apply Keeps.completeOrder
    | with_reducible apply Keeps.unblockLine

theorem Keeps.orderAttach (h : Keeps s t) (L : LineNo) : Keeps s (t.orderAttach L) := by
  dsimp only [State.orderAttach]
  repeat' first
    | with_reducible exact h
    | with_reducible apply Keeps.completeOrder
    | with_reducible apply Keeps.request
    | with_reducible exact h.trans ⟨rfl, rfl, rfl, rfl, rfl⟩
    | split

theorem Keeps.orderDetach (h : Keeps s t) (L : LineNo) : Keeps s (t.orderDetach L) := by
  dsimp only [State.orderDetach]
  repeat' first
    | with_reducible exact h
    | with_reducible apply Keeps.completeOrder
    | with_reducible apply Keeps.releaseTo

theorem Keeps.orderResume (h : Keeps s t) (L : LineNo) : Keeps s (t.orderResume L) := by
  dsimp only [State.orderResume]
  repeat' first
    | with_reducible exact h
    | with_reducible apply Keeps.completeOrder
    | with_reducible apply Keeps.requestIfTone
    | with_reducible apply Keeps.openCollection
    | with_reducible exact h.trans ⟨rfl, rfl, rfl, rfl, rfl⟩
    | split

theorem Keeps.admitTest (h : Keeps s t) (L : LineNo) (m : Nat) : Keeps s (t.admitTest L m) := by
  dsimp only [State.admitTest]
  repeat' first
    | with_reducible exact h
    | with_reducible apply Keeps.completeOrder
    | with_reducible apply Keeps.setTest
    | with_reducible apply Keeps.connectLine
    | with_reducible exact h.trans ⟨rfl, rfl, rfl, rfl, rfl⟩
    | split

theorem Keeps.beginCheck (h : Keeps s t) : Keeps s t.beginCheck := by
  dsimp only [State.beginCheck]
  repeat' first
    | with_reducible exact h
    | with_reducible apply Keeps.setTest

theorem Keeps.failCheck (h : Keeps s t) (c : Nat) : Keeps s (t.failCheck c) := by
  dsimp only [State.failCheck]
  repeat' first
    | with_reducible exact h
    | with_reducible apply Keeps.completeOrder

theorem Keeps.onLine (h : Keeps s t) (o : Order) (act : State → LineNo → State) (k : ∀ L, Keeps s (act t L)) :
    Keeps s (t.onLine o act) := by
  unfold State.onLine
  split
  · exact k _
  · exact h.failCheck _

theorem Keeps.carryOut (h : Keeps s t) (o : Order) : Keeps s (t.carryOut o) := by
  have h0 : Keeps s (t.atPhase (.executing o .engine)) := h.atPhase _
  dsimp only [State.carryOut]
  split
  · exact h0.failCheck _
  · exact h0.onLine o _ (fun L => h0.orderBlock L)
  · exact h0.onLine o _ (fun L => h0.orderUnblock L)
  · exact h0.onLine o _ (fun L => h0.orderAttach L)
  · exact h0.onLine o _ (fun L => h0.orderDetach L)
  · exact h0.onLine o _ (fun L => h0.orderResume L)
  · exact h0.onLine o _ (fun L => h0.admitTest L _)
  · exact h0.beginCheck
  · split
    · exact h.atPhase _
    · exact h0.failCheck _
  · exact h.atPhase _
  · exact h.atPhase _

theorem Keeps.markClamped (h : Keeps s t) (L : LineNo) (b : Bool) : Keeps s (t.markClamped L b) := by
  dsimp only [State.markClamped]
  repeat' first
    | with_reducible exact h
    | with_reducible apply Keeps.markUntimed
    | with_reducible apply Keeps.setMarks
    | with_reducible exact h.trans ⟨rfl, rfl, rfl, rfl, rfl⟩
    | split

theorem Keeps.loseTone (h : Keeps s t) (L : LineNo) (a b : Profile) : Keeps s (t.loseTone L a b) := by
  dsimp only [State.loseTone]
  repeat' first
    | with_reducible exact h
    | with_reducible apply Keeps.releaseTo
    | with_reducible exact h.trans ⟨rfl, rfl, rfl, rfl, rfl⟩
    | split

theorem Keeps.refreshLine (h : Keeps s t) (L : LineNo) : Keeps s (t.refreshLine L) := by
  dsimp only [State.refreshLine]
  repeat' first
    | with_reducible exact h
    | with_reducible apply Keeps.setDec
    | with_reducible apply Keeps.setBaseline

theorem Keeps.applyProfile (h : Keeps s t) (L : LineNo) (b : List Byte) : Keeps s (t.applyProfile L b) := by
  unfold State.applyProfile
  generalize parseProfile b = new
  have k := (h.setProfile L new).markClamped L (decide (0 < profileClamped b))
  dsimp only
  revert k
  generalize (t.setProfile L new).markClamped L (decide (0 < profileClamped b)) = u
  intro k
  split
  · split
    · exact k.enableLine L
    · exact k
  · split
    · exact (k.refreshLine L).loseTone L _ _
    · exact (k.disableLine L).loseTone L _ _

theorem Keeps.profileRead (h : Keeps s t) (o : Order) (a b c d e : Nat) (x : List Byte) : Keeps s (t.profileRead o a b c d e x) := by
  dsimp only [State.profileRead]
  repeat' first
    | with_reducible exact h
    | with_reducible apply Keeps.completeOrder
    | with_reducible apply Keeps.atPhase
    | with_reducible apply Keeps.applyProfile
    | with_reducible exact h.trans ⟨rfl, rfl, rfl, rfl, rfl⟩
    | split

theorem Keeps.planPart (h : Keeps s t) (o : Order) (a b x : List Byte) : Keeps s (t.planPart o a b x) := by
  dsimp only [State.planPart]
  repeat' first
    | with_reducible exact h
    | with_reducible apply Keeps.completeOrder
    | with_reducible apply Keeps.atPhase
    | with_reducible exact h.trans ⟨rfl, rfl, rfl, rfl, rfl⟩
    | split

theorem Keeps.recount (h : Keeps s t) (n : Nat) (r : RxNo) : Keeps s (State.recount n t r) := by
  dsimp only [State.recount]
  repeat' first
    | with_reducible exact h
    | with_reducible apply Keeps.handOver
    | with_reducible apply Keeps.setReceiver
    | split

theorem Keeps.foldl {α : Type} (f : State → α → State) (k : ∀ {u : State} (a : α), Keeps s u → Keeps s (f u a)) :
    ∀ (xs : List α) {u : State}, Keeps s u → Keeps s (xs.foldl f u)
  | [], _, h => h
  | x :: xs, _, h => Keeps.foldl f k xs (k x h)

theorem Keeps.changeEnabled (h : Keeps s t) (n : Nat) : Keeps s (t.changeEnabled n) :=
  Keeps.foldl _ (fun r g => g.recount n r) _ (h.trans ⟨rfl, rfl, rfl, rfl, rfl⟩)

/-- All that a room_threshold read does to a room check that waits (R166). -/
theorem Journal.dropRoomRead_cases (j : Journal) (n : Nat) :
    j.dropRoomRead n = j ∨
    ∃ k a w, j.work = some ⟨k, a, w, .roomRead⟩ ∧ n = 0 ∧
      j.dropRoomRead n = { j with roomLow := false, work := some ⟨k, a, w, .entries 0⟩ } := by
  unfold Journal.dropRoomRead
  split
  · rename_i h
    split
    · exact .inr ⟨_, _, _, h, ‹_›, rfl⟩
    · exact .inl rfl
  · exact .inl rfl

theorem Keeps.applySettings (h : Keeps s t) (b : List Byte) : Keeps s (t.applySettings b) := by
  dsimp only [State.applySettings]
  repeat' first
    | with_reducible exact h
    | with_reducible apply Keeps.trigger
    | with_reducible apply Keeps.changeEnabled
    | with_reducible exact h.trans ⟨rfl, rfl, rfl, rfl, rfl⟩
    | split

theorem Keeps.settingsPart (h : Keeps s t) (o : Order) (b x : List Byte) : Keeps s (t.settingsPart o b x) := by
  dsimp only [State.settingsPart]
  repeat' first
    | with_reducible exact h
    | with_reducible apply Keeps.completeOrder
    | with_reducible apply Keeps.atPhase
    | with_reducible apply Keeps.applySettings
    | with_reducible exact h.trans ⟨rfl, rfl, rfl, rfl, rfl⟩
    | split

theorem Keeps.orderTaken (h : Keeps s t) (o : Order) (n : Nat) : Keeps s (t.orderTaken o n) := by
  dsimp only [State.orderTaken]
  repeat' first
    | with_reducible exact h
    | with_reducible apply Keeps.carryOut
    | with_reducible apply Keeps.atPhase
    | with_reducible apply Keeps.setExecutor
    | with_reducible exact h.trans ⟨rfl, rfl, rfl, rfl, rfl⟩
    | split

theorem Keeps.takeReadDone (h : Keeps s t) (l : OrderList) (n : Nat) (d : List Byte) : Keeps s (t.takeReadDone l n d) := by
  dsimp only [State.takeReadDone]
  repeat' first
    | with_reducible exact h
    | with_reducible apply Keeps.atPhase
    | with_reducible apply Keeps.becomeIdle
    | with_reducible exact h.trans ⟨rfl, rfl, rfl, rfl, rfl⟩
    | split

theorem Keeps.workRead (h : Keeps s t) (o : Order) (d : List Byte) (w : OrderWork) : Keeps s (t.workRead o d w) := by
  dsimp only [State.workRead]
  repeat' first
    | with_reducible exact h
    | with_reducible apply Keeps.profileRead
    | with_reducible apply Keeps.planPart
    | with_reducible apply Keeps.settingsPart
    | with_reducible exact h.trans ⟨rfl, rfl, rfl, rfl, rfl⟩
    | split

theorem Keeps.executorDone (h : Keeps s t) (d : List Byte) : Keeps s (t.executorDone d) := by
  dsimp only [State.executorDone]
  repeat' first
    | with_reducible exact h
    | with_reducible apply Keeps.atPhase
    | with_reducible apply Keeps.lookDone
    | with_reducible apply Keeps.takeReadDone
    | with_reducible apply Keeps.orderTaken
    | with_reducible apply Keeps.workRead
    | with_reducible apply Keeps.becomeIdle
    | with_reducible apply Keeps.raiseCause
    | with_reducible exact h.trans ⟨rfl, rfl, rfl, rfl, rfl⟩
    | split

theorem Keeps.startAt (h : Keeps s t) (q : StartSeq) : Keeps s (t.startAt q) := by
  dsimp only [State.startAt]
  repeat' first
    | with_reducible exact h
    | with_reducible exact h.trans ⟨rfl, rfl, rfl, rfl, rfl⟩

theorem Keeps.failStart (h : Keeps s t) (r : StartResult) : Keeps s (t.failStart r) := by
  dsimp only [State.failStart]
  repeat' first
    | with_reducible exact h
    | with_reducible apply Keeps.enterStopped
    | with_reducible exact h.trans ⟨rfl, rfl, rfl, rfl, rfl⟩

theorem Keeps.startSettings (h : Keeps s t) (q : StartSeq) (b d : List Byte) : Keeps s (t.startSettings q b d) := by
  dsimp only [State.startSettings]
  repeat' first
    | with_reducible exact h
    | with_reducible apply Keeps.startAt
    | with_reducible apply Keeps.failStart
    | with_reducible exact h.trans ⟨rfl, rfl, rfl, rfl, rfl⟩
    | split

theorem Keeps.startPlan (h : Keeps s t) (q : StartSeq) (a b d : List Byte) : Keeps s (t.startPlan q a b d) := by
  dsimp only [State.startPlan]
  repeat' first
    | with_reducible exact h
    | with_reducible apply Keeps.startAt
    | with_reducible exact h.trans ⟨rfl, rfl, rfl, rfl, rfl⟩
    | split

theorem Keeps.startProfile (h : Keeps s t) (q : StartSeq) (L : LineNo) (d : List Byte) : Keeps s (t.startProfile q L d) := by
  dsimp only [State.startProfile]
  repeat' first
    | with_reducible exact h
    | with_reducible apply Keeps.startAt
    | with_reducible apply Keeps.beginEntries
    | with_reducible apply Keeps.setMarks
    | with_reducible apply Keeps.setProfile
    | with_reducible exact h.trans ⟨rfl, rfl, rfl, rfl, rfl⟩
    | split

theorem Keeps.startEntryDone (h : Keeps s t) (q : StartSeq) (L : LineNo) : Keeps s (t.startEntryDone q L) := by
  dsimp only [State.startEntryDone]
  repeat' first
    | with_reducible exact h
    | with_reducible apply Keeps.startAt
    | with_reducible exact h.trans ⟨rfl, rfl, rfl, rfl, rfl⟩
    | split

theorem Keeps.startEnds (h : Keeps s t) (q : StartSeq) : Keeps s (t.startEnds q) := by
  dsimp only [State.startEnds]
  repeat' first
    | with_reducible exact h
    | with_reducible apply Keeps.owedWork
    | with_reducible apply Keeps.enterRunning
    | with_reducible apply Keeps.stage
    | with_reducible exact h.trans ⟨rfl, rfl, rfl, rfl, rfl⟩
    | split

theorem Keeps.startDone (h : Keeps s t) (d : List Byte) : Keeps s (t.startDone d) := by
  dsimp only [State.startDone]
  repeat' first
    | with_reducible exact h
    | with_reducible apply Keeps.startSettings
    | with_reducible apply Keeps.startPlan
    | with_reducible apply Keeps.startProfile
    | with_reducible apply Keeps.startEntryDone
    | with_reducible apply Keeps.startEnds
    | with_reducible exact h.trans ⟨rfl, rfl, rfl, rfl, rfl⟩
    | split

theorem Keeps.unitDone (h : Keeps s t) (u : MemUnit) (d : List Byte) : Keeps s (t.unitDone u d) := by
  dsimp only [State.unitDone]
  repeat' first
    | with_reducible exact h
    | with_reducible apply Keeps.journalDone
    | with_reducible apply Keeps.executorDone
    | with_reducible exact h.trans ⟨rfl, rfl, rfl, rfl, rfl⟩
    | split

theorem Keeps.retryDone (h : Keeps s t) (u : MemUnit) (d : List Byte) : Keeps s (t.retryDone u d) := by
  dsimp only [State.retryDone]
  repeat' first
    | with_reducible exact h
    | with_reducible apply Keeps.returned
    | with_reducible apply Keeps.unitDone
    | with_reducible apply Keeps.enterFrozen
    | with_reducible exact h.trans ⟨rfl, rfl, rfl, rfl, rfl⟩
    | split

/-- A retry with freeze asked 1: FROZEN, and then the unit takes what the access gave (R181, log entry 34). -/
theorem State.retryDone_of_freeze (h : s.run.freezeAsked = true) (u : MemUnit) (d : List Byte) :
    s.retryDone u d = State.unitDone (s.setRun { s.run with failed := none }).enterFrozen u d := by
  simp [State.retryDone, h]

/-- A retry with freeze asked 0: RUNNING, the unit takes what the access gave, and the work owed begins (R181). -/
theorem State.retryDone_of_not_freeze (h : s.run.freezeAsked = false) (u : MemUnit) (d : List Byte) :
    s.retryDone u d =
      (State.unitDone (s.setRun { s.run with failed := none, control := .running }) u d).returned := by
  simp [State.retryDone, h, State.setRun]

theorem Keeps.accessDone (h : Keeps s t) (d : List Byte) : Keeps s (t.accessDone d) := by
  dsimp only [State.accessDone]
  repeat' first
    | with_reducible exact h
    | with_reducible apply Keeps.settle
    | with_reducible apply Keeps.startDone
    | with_reducible apply Keeps.unitDone
    | with_reducible apply Keeps.retryDone
    | with_reducible apply Keeps.freePort
    | with_reducible exact h.trans ⟨rfl, rfl, rfl, rfl, rfl⟩
    | split

theorem Keeps.accessFailed (h : Keeps s t) : Keeps s t.accessFailed := by
  dsimp only [State.accessFailed]
  repeat' first
    | with_reducible exact h
    | with_reducible apply Keeps.failStart
    | with_reducible apply Keeps.raiseCause
    | with_reducible apply Keeps.enterStopped
    | with_reducible apply Keeps.freePort
    | with_reducible exact h.trans ⟨rfl, rfl, rfl, rfl, rfl⟩
    | split

theorem Keeps.finishTest (h : Keeps s t) : Keeps s t.finishTest := by
  dsimp only [State.finishTest]
  repeat' first
    | with_reducible exact h
    | with_reducible apply Keeps.completeOrder
    | with_reducible apply Keeps.returnLine
    | with_reducible apply Keeps.setTest
    | with_reducible exact h.trans ⟨rfl, rfl, rfl, rfl, rfl⟩
    | split

theorem Keeps.closeTest (h : Keeps s t) : Keeps s t.closeTest := by
  dsimp only [State.closeTest]
  repeat' first
    | with_reducible exact h
    | with_reducible apply Keeps.finishTest
    | with_reducible apply Keeps.setTest
    | with_reducible exact h.trans ⟨rfl, rfl, rfl, rfl, rfl⟩
    | split

theorem Keeps.afterResistance (h : Keeps s t) : Keeps s t.afterResistance := by
  dsimp only [State.afterResistance]
  repeat' first
    | with_reducible exact h
    | with_reducible apply Keeps.closeTest
    | with_reducible apply Keeps.setTest
    | with_reducible exact h.trans ⟨rfl, rfl, rfl, rfl, rfl⟩
    | split

theorem Keeps.afterVoltage (h : Keeps s t) : Keeps s t.afterVoltage := by
  dsimp only [State.afterVoltage]
  repeat' first
    | with_reducible exact h
    | with_reducible apply Keeps.afterResistance
    | with_reducible apply Keeps.setTest
    | with_reducible exact h.trans ⟨rfl, rfl, rfl, rfl, rfl⟩
    | split

theorem Keeps.beginTests (h : Keeps s t) : Keeps s t.beginTests := by
  dsimp only [State.beginTests]
  repeat' first
    | with_reducible exact h
    | with_reducible apply Keeps.afterVoltage
    | with_reducible apply Keeps.setTest
    | with_reducible exact h.trans ⟨rfl, rfl, rfl, rfl, rfl⟩
    | split

theorem Keeps.finding (h : Keeps s t) (f : Finding) (r : Int) : Keeps s (t.finding f r) := by
  dsimp only [State.finding]
  repeat' first
    | with_reducible exact h
    | with_reducible apply Keeps.closeTest
    | with_reducible apply Keeps.testRaise
    | with_reducible apply Keeps.setTest
    | with_reducible exact h.trans ⟨rfl, rfl, rfl, rfl, rfl⟩
    | split

theorem Keeps.judgeVoltage (h : Keeps s t) : Keeps s t.judgeVoltage := by
  dsimp only [State.judgeVoltage]
  repeat' first
    | with_reducible exact h
    | with_reducible apply Keeps.finding
    | with_reducible apply Keeps.afterVoltage
    | with_reducible exact h.trans ⟨rfl, rfl, rfl, rfl, rfl⟩
    | split

theorem Keeps.nextResistance (h : Keeps s t) (q : ResQ) : Keeps s (t.nextResistance q) := by
  dsimp only [State.nextResistance]
  repeat' first
    | with_reducible exact h
    | with_reducible apply Keeps.afterResistance
    | with_reducible apply Keeps.setTest
    | with_reducible exact h.trans ⟨rfl, rfl, rfl, rfl, rfl⟩
    | split

theorem Keeps.storeResistance (h : Keeps s t) (q : ResQ) (x : Quantity) : Keeps s (t.storeResistance q x) := by
  dsimp only [State.storeResistance]
  repeat' first
    | with_reducible exact h
    | with_reducible apply Keeps.nextResistance
    | with_reducible apply Keeps.setTest

theorem Keeps.collision (h : Keeps s t) (q : ResQ) (x : Int) : Keeps s (t.collision q x) := by
  dsimp only [State.collision]
  repeat' first
    | with_reducible exact h
    | with_reducible apply Keeps.finding
    | with_reducible apply Keeps.setTest

theorem Keeps.finishCheck (h : Keeps s t) (v : Verified) : Keeps s (t.finishCheck v) := by
  dsimp only [State.finishCheck]
  repeat' first
    | with_reducible exact h
    | with_reducible apply Keeps.completeOrder
    | with_reducible apply Keeps.setTest

theorem Keeps.seriesEnded (h : Keeps s t) (x : ReadTarget) (d a : Int) (u : Bool) : Keeps s (t.seriesEnded x d a u) := by
  dsimp only [State.seriesEnded]
  repeat' first
    | with_reducible exact h
    | with_reducible apply Keeps.finishCheck
    | with_reducible apply Keeps.storeResistance
    | with_reducible apply Keeps.judgeVoltage
    | with_reducible apply Keeps.closeTest
    | with_reducible apply Keeps.setTest
    | with_reducible exact h.trans ⟨rfl, rfl, rfl, rfl, rfl⟩
    | split

theorem Keeps.useReading (h : Keeps s t) (x : ReadTarget) (d a : Int) : Keeps s (t.useReading x d a) := by
  dsimp only [State.useReading]
  repeat' first
    | with_reducible exact h
    | with_reducible apply Keeps.seriesEnded
    | with_reducible apply Keeps.collision
    | with_reducible apply Keeps.setTest
    | with_reducible exact h.trans ⟨rfl, rfl, rfl, rfl, rfl⟩
    | split

theorem Keeps.readingDone (h : Keeps s t) (x : List Int) : Keeps s (t.readingDone x) := by
  dsimp only [State.readingDone]
  repeat' first
    | with_reducible exact h
    | with_reducible apply Keeps.useReading
    | with_reducible apply Keeps.setTest
    | with_reducible exact h.trans ⟨rfl, rfl, rfl, rfl, rfl⟩
    | split

theorem Keeps.cutTest (h : Keeps s t) : Keeps s t.cutTest := by
  dsimp only [State.cutTest]
  repeat' first
    | with_reducible exact h
    | with_reducible apply Keeps.closeTest
    | with_reducible apply Keeps.setTest

theorem Keeps.loopWatch (h : Keeps s t) (v : Int) : Keeps s (t.loopWatch v) := by
  dsimp only [State.loopWatch]
  repeat' first
    | with_reducible exact h
    | with_reducible apply Keeps.cutTest
    | with_reducible apply Keeps.useReading
    | with_reducible exact h.trans ⟨rfl, rfl, rfl, rfl, rfl⟩
    | split

theorem Keeps.dischargeEnd (h : Keeps s t) (n : AfterDischarge) : Keeps s (t.dischargeEnd n) := by
  dsimp only [State.dischargeEnd]
  repeat' first
    | with_reducible exact h
    | with_reducible apply Keeps.finishTest
    | with_reducible apply Keeps.setTest
    | with_reducible exact h.trans ⟨rfl, rfl, rfl, rfl, rfl⟩
    | split

theorem Keeps.tickTest (h : Keeps s t) : Keeps s t.tickTest.1 := by
  dsimp only [State.tickTest]
  repeat' first
    | with_reducible exact h
    | with_reducible apply Keeps.beginTests
    | with_reducible apply Keeps.dischargeEnd
    | with_reducible apply Keeps.setTest
    | with_reducible exact h.trans ⟨rfl, rfl, rfl, rfl, rfl⟩
    | split

theorem Keeps.stopTest (h : Keeps s t) : Keeps s t.stopTest := by
  dsimp only [State.stopTest]
  repeat' first
    | with_reducible exact h
    | with_reducible apply Keeps.returnLine
    | with_reducible apply Keeps.setTest
    | with_reducible exact h.trans ⟨rfl, rfl, rfl, rfl, rfl⟩
    | split

theorem Keeps.runStart (h : Keeps s t) : Keeps s t.runStart := by
  dsimp only [State.runStart]
  repeat' first
    | with_reducible exact h
    | with_reducible apply Keeps.settle
    | with_reducible exact h.trans ⟨rfl, rfl, rfl, rfl, rfl⟩
    | split

theorem Keeps.abandonRead (h : Keeps s t) : Keeps s t.abandonRead := by
  dsimp only [State.abandonRead]
  repeat' first
    | with_reducible exact h
    | with_reducible exact h.trans ⟨rfl, rfl, rfl, rfl, rfl⟩
    | split

theorem Keeps.stopExecutor (h : Keeps s t) : Keeps s t.stopExecutor := by
  dsimp only [State.stopExecutor]
  repeat' first
    | with_reducible exact h
    | with_reducible apply Keeps.abandonRead
    | with_reducible apply Keeps.atPhase
    | with_reducible apply Keeps.stopTest
    | with_reducible exact h.trans ⟨rfl, rfl, rfl, rfl, rfl⟩
    | split

theorem Keeps.nudge (h : Keeps s t) : Keeps s t.nudge := by
  dsimp only [State.nudge]
  repeat' first
    | with_reducible exact h
    | with_reducible apply Keeps.executorPoll
    | with_reducible apply Keeps.journalPoll

theorem Keeps.retry (h : Keeps s t) (a : Access) : Keeps s (t.retry a) := by
  dsimp only [State.retry]
  repeat' first
    | with_reducible exact h
    | with_reducible apply Keeps.occupy
    | with_reducible exact h.trans ⟨rfl, rfl, rfl, rfl, rfl⟩

theorem Keeps.resume (h : Keeps s t) : Keeps s t.resume := by
  dsimp only [State.resume]
  repeat' first
    | with_reducible exact h
    | with_reducible apply Keeps.retry
    | with_reducible exact h.trans ⟨rfl, rfl, rfl, rfl, rfl⟩
    | split

theorem Keeps.deliver (h : Keeps s t) (g : LinkNo) (fr : Frame) (e : Fin 16) : Keeps s (t.deliver g fr e) :=
  Keeps.foldl _ (fun p k => k.takeSample (lineAt g p) (fr.sample p e)) _ h

theorem Keeps.closeLinks (h : Keeps s t) : Keeps s t.closeLinks := by
  refine Keeps.foldl _ (fun g k => ?_) _ h
  dsimp only [State.closeLink]
  split
  · exact (k.setLink ..).stage ..
  · exact k.setLink ..

theorem Keeps.acceptFrame (h : Keeps s t) (g : LinkNo) (fr : Frame) : Keeps s (t.acceptFrame g fr) := by
  dsimp only [State.acceptFrame]
  repeat' first
    | with_reducible exact h
    | with_reducible apply Keeps.deliver
    | with_reducible apply Keeps.setLink
    | with_reducible exact h.trans ⟨rfl, rfl, rfl, rfl, rfl⟩
    | split

theorem Keeps.setFirstSample (h : Keeps s t) (g : LinkNo) (b : Bool) : Keeps s (t.setFirstSample g b) := by
  dsimp only [State.setFirstSample]
  repeat' first
    | with_reducible exact h
    | with_reducible apply Keeps.setLink

theorem Keeps.restoreLink (h : Keeps s t) (g : LinkNo) (fr : Frame) : Keeps s (t.restoreLink g fr) := by
  have key : ∀ {u : State}, Keeps s u → Keeps s (positions.foldl (State.reseedAt g) u) :=
    fun k => Keeps.foldl _ (fun p k => k.askReseed (lineAt g p)) _ k
  dsimp only [State.restoreLink]
  split
  · exact ((key ((h.setLink ..).stage ..)).deliver ..).setFirstSample ..
  · exact ((key (h.setLink ..)).deliver ..).setFirstSample ..

theorem Keeps.runFrame (h : Keeps s t) (g : LinkNo) (fr : Frame) : Keeps s (t.runFrame g fr).1 := by
  dsimp only [State.runFrame]
  repeat' first
    | with_reducible exact h
    | with_reducible apply Keeps.restoreLink
    | with_reducible apply Keeps.setLink
    | with_reducible exact h.trans ⟨rfl, rfl, rfl, rfl, rfl⟩
    | split

theorem Keeps.senseFrame (h : Keeps s t) (g : LinkNo) (b : List Byte) : Keeps s (t.senseFrame g b).1 := by
  dsimp only [State.senseFrame]
  repeat' first
    | with_reducible exact h
    | with_reducible apply Keeps.acceptFrame
    | with_reducible apply Keeps.runFrame
    | with_reducible apply Keeps.setLink
    | with_reducible exact h.trans ⟨rfl, rfl, rfl, rfl, rfl⟩
    | split

theorem Keeps.countSymbol (h : Keeps s t) (r : RxNo) (L : LineNo) : Keeps s (t.countSymbol r L) := by
  dsimp only [State.countSymbol]
  repeat' first
    | with_reducible exact h
    | with_reducible apply Keeps.setReceiver
    | with_reducible exact h.trans ⟨rfl, rfl, rfl, rfl, rfl⟩
    | split

theorem Keeps.acceptSymbol (h : Keeps s t) (r : RxNo) (L : LineNo) (x : Symbol) : Keeps s (t.acceptSymbol r L x) := by
  dsimp only [State.acceptSymbol]
  repeat' first
    | with_reducible exact h
    | with_reducible apply Keeps.countSymbol
    | with_reducible apply Keeps.takeSymbol
    | with_reducible apply Keeps.stage
    | with_reducible exact h.trans ⟨rfl, rfl, rfl, rfl, rfl⟩
    | split

theorem Keeps.endBlock (h : Keeps s t) (r : RxNo) (L : LineNo) (x : Receiver) : Keeps s (t.endBlock r L x) := by
  dsimp only [State.endBlock]
  repeat' first
    | with_reducible exact h
    | with_reducible apply Keeps.acceptSymbol
    | with_reducible apply Keeps.setReceiver
    | with_reducible exact h.trans ⟨rfl, rfl, rfl, rfl, rfl⟩
    | split

theorem Keeps.receiverFrame {a : State × List RxNo} (h : Keeps s a.1) (x : List (BitVec 16)) (r : RxNo) :
    Keeps s (State.receiverFrame x a r).1 := by
  dsimp only [State.receiverFrame]
  repeat' first
    | with_reducible exact h
    | with_reducible apply Keeps.endBlock
    | with_reducible apply Keeps.setReceiver
    | split

theorem Keeps.receiversTake (h : Keeps s t) (x : List (BitVec 16)) : Keeps s (t.receiversTake x).1 := by
  have key : ∀ (rs : List RxNo) {a : State × List RxNo}, Keeps s a.1 → Keeps s (rs.foldl (State.receiverFrame x) a).1 := by
    intro rs
    induction rs with
    | nil => exact fun k => k
    | cons r rs ih => exact fun k => ih (k.receiverFrame x r)
  exact key _ h

theorem Keeps.lostFrame (h : Keeps s t) : Keeps s t.lostFrame.1 := by
  dsimp only [State.lostFrame]
  repeat' first
    | with_reducible exact h
    | with_reducible apply Keeps.setHighway
    | with_reducible apply Keeps.stage
    | with_reducible exact h.trans ⟨rfl, rfl, rfl, rfl, rfl⟩
    | split

theorem Keeps.highwayFrame (h : Keeps s t) (x : List (BitVec 16)) : Keeps s (t.highwayFrame x).1 := by
  dsimp only [State.highwayFrame]
  repeat' first
    | with_reducible exact h
    | with_reducible apply Keeps.receiversTake
    | with_reducible apply Keeps.lostFrame
    | with_reducible apply Keeps.setHighway
    | with_reducible exact h.trans ⟨rfl, rfl, rfl, rfl, rfl⟩
    | split

theorem Keeps.highwayInstant (h : Keeps s t) : Keeps s t.highwayInstant.1 := by
  dsimp only [State.highwayInstant]
  repeat' first
    | with_reducible exact h
    | with_reducible apply Keeps.stage
    | with_reducible apply Keeps.mapReceivers
    | with_reducible apply Keeps.setHighway
    | with_reducible exact h.trans ⟨rfl, rfl, rfl, rfl, rfl⟩
    | split

theorem Keeps.tickDelay (h : Keeps s t) : Keeps s t.tickDelay := by
  dsimp only [State.tickDelay]
  repeat' first
    | with_reducible exact h
    | with_reducible apply Keeps.trigger
    | with_reducible apply Keeps.setJournal
    | with_reducible exact h.trans ⟨rfl, rfl, rfl, rfl, rfl⟩
    | split

theorem Keeps.tickAbsolute (h : Keeps s t) : Keeps s t.tickAbsolute := by
  dsimp only [State.tickAbsolute]
  repeat' first
    | with_reducible exact h
    | with_reducible apply Keeps.trigger
    | with_reducible apply Keeps.setJournal
    | with_reducible exact h.trans ⟨rfl, rfl, rfl, rfl, rfl⟩
    | split

theorem Keeps.tickPoll (h : Keeps s t) : Keeps s t.tickPoll := by
  dsimp only [State.tickPoll]
  repeat' first
    | with_reducible exact h
    | with_reducible apply Keeps.executorPoll
    | with_reducible apply Keeps.journalPoll
    | with_reducible apply Keeps.setExecutor
    | with_reducible exact h.trans ⟨rfl, rfl, rfl, rfl, rfl⟩
    | split

theorem Keeps.tickLive (h : Keeps s t) : Keeps s t.tickLive.1 := by
  dsimp only [State.tickLive]
  repeat' first
    | with_reducible exact h
    | with_reducible apply Keeps.closeLinks
    | with_reducible apply Keeps.tickTest
    | with_reducible apply Keeps.tickPoll
    | with_reducible exact h.trans ⟨rfl, rfl, rfl, rfl, rfl⟩
    | split

end Sys2Proof.Machine
end

