-- ==== Sys2Proof/Tests/Slice0.lean ====
section
/-! SUPPORT. Tests: an ill-formed command for each check of WellFormed, small tests whose expected values come from the
worked examples and tables of spec/, and for every obligation with hypotheses a witness that meets them. -/

open Sys2Proof Sys2Proof.Machine
namespace Sys2Proof.Tests

/-! ## WellFormed refuses -/

theorem test_wellformed_frame_length : WellFormed (.linkRestored 0 []) = false := by decide
theorem test_wellformed_current : WellFormed (.release 0 ⟨1024, 0, 0, 1⟩) = false := by decide
theorem test_wellformed_current_low : WellFormed (.seizeConfirm 0 ⟨-1025, 0, 0, 1⟩) = false := by decide
theorem test_wellformed_tip : WellFormed (.digitEnd 0 ⟨0, 512, 0, 1⟩) = false := by decide
theorem test_wellformed_tip_low : WellFormed (.parkedRelease 0 ⟨0, -513, 0, 1⟩) = false := by decide
theorem test_wellformed_ring : WellFormed (.firstDigitTimeout 0 ⟨0, 0, 512, 1⟩) = false := by decide
theorem test_wellformed_ring_low : WellFormed (.interdigitTimeout 0 ⟨0, 0, -513, 1⟩) = false := by decide
theorem test_wellformed_slots : WellFormed (.highwayFrame (List.replicate 129 0)) = false := by decide +kernel
theorem test_wellformed_complete : WellFormed (.highwayRestored []) = false := by decide
theorem test_wellformed_block : WellFormed (.blockEnd 0 []) = false := by decide
theorem test_wellformed_condition : WellFormed (.conditionConfirm 0 .powerCross ⟨0, 0, 0, 1⟩) = false := by decide
theorem test_wellformed_clear : WellFormed (.conditionClear 0 .powerCross ⟨0, 0, 0, 1⟩) = false := by decide
theorem test_wellformed_data : WellFormed (.memoryAccessDone (List.replicate 65 0)) = false := by decide
theorem test_wellformed_conversions : WellFormed (.readingDone [0]) = false := by decide
theorem test_wellformed_count : WellFormed (.readingDone (List.replicate 20 2048)) = false := by decide
theorem test_wellformed_count_low : WellFormed (.loopWatchRead (-2049)) = false := by decide
theorem test_wellformed_offset : WellFormed (.ignoredRegisterWrite 0x10 0) = false := by decide
theorem test_wellformed_accepts : WellFormed (.release 95 ⟨-1024, 511, -512, 15⟩) = true := by decide

/-! ## States for the tests -/

/-- A part in RUNNING with nothing under way. -/
def live : State := State.reset.setRun { control := .running }

/-- A line with an open loop in a hook state, its latches NO_LOOP. -/
def opened (h : Hook) (t : Timer) : Line := { sup := { hook := h, timer := t } }

/-- A line with a closed loop in a hook state, its latches LOOP. -/
def closed (h : Hook) (t : Timer) : Line :=
  { cond := ⟨.loop, .loop, .loop, .loop, false, 0, 0⟩, sup := { hook := h, timer := t } }

/-- An ON_HOOK line whose baseline stands at 20 steps. -/
def leaking (f : FaultRecord) : Line := { sup := { hook := .onHook, b := 320, seeded := true }, fault := f }

/-- Line 0 as given, on an UP link. -/
def lineAt0 (ln : Line) : State := (live.setLine 0 ln).setLink 0 { up := true }

/-- An open train with its make timer RUNNING. -/
def train (count make : Nat) : PulseDecoder := { trainOpen := true, count := count, make := make, makeState := .running }

/-- A frame of count 5 with every value 0, and what it holds. -/
def frame5 : List Byte := 5 :: List.replicate 48 0 ++ [251]
def zeroFrame : Frame := ⟨5, List.replicate 8 ⟨0, 0, 0⟩⟩

/-- A highway frame of 128 slots. -/
def slots : List (BitVec 16) := List.replicate 128 1

def parkRecord : Record := ⟨some 0, 0, .park⟩

/-- 32 records staged. -/
def fullQueue : State := live.setJournal { queue := List.replicate 32 parkRecord }

/-- An access of one unit. -/
def access (u : MemUnit) (write : Bool) (n : Nat) : Access := ⟨u, write, 0, n, [], 0⟩

/-- A control state with an access in flight. -/
def busyWith (c : ControlState) (a : Access) : State := State.reset.setRun { control := c, port := .busy a true }

def busy (c : ControlState) (u : MemUnit) (write : Bool) : State := busyWith c (access u write 1)

/-- The Journal Unit at a step of its sequence, its access in flight in RUNNING. -/
def journalAt (write : Bool) (w : Work) (q : List Record) : State :=
  (busyWith .running (access .journal write 1)).setJournal { queue := q, work := some w }

/-- A retry in flight in MEMORY_ERROR with freeze asked 1. -/
def retrying (a : Access) (j : Journal) : State :=
  ((busyWith .memoryError a).setJournal j).setRun
    { control := .memoryError, freezeAsked := true, failed := some a, port := .busy a true }

/-- The start sequence at a step. -/
def starting (st : StartStep) (write : Bool) (n : Nat) : State :=
  State.reset.setRun { control := .starting, port := .busy (access .start write n) true, start := some { step := st } }

/-- The executor at a phase, its access in flight in RUNNING. -/
def executorAt (p : ExecPhase) (write : Bool) (n : Nat) : State :=
  (busyWith .running (access .executor write n)).setExecutor { phase := p }

/-- An order of a kind, with its line field and its count. -/
def order (kind line count : Nat) : Order :=
  ⟨.priority, 0, [1, BitVec.ofNat 8 kind, BitVec.ofNat 8 line, BitVec.ofNat 8 count]⟩

/-- The TAKEN write of an order in flight. -/
def taking (kind line count : Nat) : State := executorAt (.takeWrite (order kind line count) 1) true 1

/-- A test of line 0 at a step. -/
def testAt (st : TestStep) (mask : Nat) : State :=
  live.setTest { phase := .measuring, step := st, connection := some 0, mask := mask }

/-- A collision reading under the 50 V stimulus. -/
def charged (dc : Int) : State :=
  live.setTest { phase := .measuring, step := .watch (.drive .tg) dc 0, connection := some 0, mask := 7, charged := true }

/-- The Global Settings of R174's example: a journal of 16 records at 0x2000, lists of 8 at 0x2200 and `routine`. -/
def settingsWith (routine : Nat) : List Byte :=
  layout 256 [wordField 0x00 0x2000, halfField 0x04 16, wordField 0x08 0x2200, halfField 0x0C 8, wordField 0x10 routine,
    halfField 0x14 8]

def goodSettings : List Byte := settingsWith 0x2300

/-! ## The worked examples and tables of spec/ -/

/-- R3: a frame whose sum is not 0 modulo 256, whose count is above 15, and a good one. -/
theorem test_frame_checks :
    parseFrame (5 :: List.replicate 48 0 ++ [250]) = none ∧ parseFrame (16 :: List.replicate 48 0 ++ [240]) = none ∧
    parseFrame frame5 = some zeroFrame := by decide

/-- spec/01, glitch, step and band: samples 5, 6 and 7 of line 17, and sample 8 in the band. -/
theorem test_filter_step_and_band :
    classify 104 84 .noLoop 150 = .loop ∧ classify 104 84 .loop (-90) = .loop ∧ classify 104 84 .loop 60 = .noLoop ∧
    ((Conditioner.filter {} .loop).filter .loop).qb = .noLoop ∧
    (((Conditioner.filter {} .loop).filter .loop).filter .loop).qb = .loop := by decide

/-- spec/02, a baseline: the seed and samples 2, 3, 4 and 5 of line 30. -/
theorem test_baseline_line_30 :
    baselineAfter {} 4 24 = 384 ∧ baselineAfter { b := 384, seeded := true } 4 26 = 386 ∧
    baselineAfter { b := 386, seeded := true } 4 23 = 384 ∧ baselineAfter { b := 384, seeded := true } 4 (-23) = 383 ∧
    baselineAfter { b := 383, seeded := true } 4 23 = 382 := by decide

/-- spec/02, the same line's thresholds at B 383: T_on 103, T_off 83. -/
theorem test_thresholds_line_30 :
    tOnOf { m := 80, f := 100, h := 20 } 383 = 103 ∧ tOffOf { m := 80, f := 100, h := 20 } 103 = 83 := by decide

/-- spec/02, breaks on one call: the class of each break of line 61. -/
theorem test_break_classes_line_61 :
    let p : Profile := { flashEnable := true, breakMin := 20, pulseBreakMax := 80, flashMin := 150, flashMax := 400 }
    breakClass p 12 = .hit 12 ∧ breakClass p 62 = .pulse 62 ∧ breakClass p 110 = .cut 110 ∧ breakClass p 250 = .flash ∧
    breakClass { p with flashEnable := false } 250 = .cut 250 := by decide

/-- spec/03, a slow dial with a hit: the second pulse of line 12. -/
theorem test_first_period_line_12 :
    let p : Profile := { gMin := 100, gMax := 300, ratioMin := 55, ratioMax := 72 }
    let d := PulseDecoder.pulse { trainOpen := true, count := 1, firstBreak := 90, make := 30 } 90 p
    d.p1 = 120 ∧ d.share = 75 ∧ d.threshold = 180 ∧ d.distorted p = true ∧ d.offSpeed = false := by decide

/-- spec/04, a block decision: the energies of receiver 2 give 4, and NONE at a greater power or a second column. -/
theorem test_block_decision_4 :
    decideBlock 1000000000 [1200000000, 310000000000, 2000000000, 900000000]
      [400000000000, 3000000000, 1100000000, 700000000] 13000000000 = some 4 ∧
    decideBlock 1000000000 [1200000000, 310000000000, 2000000000, 900000000]
      [400000000000, 3000000000, 1100000000, 700000000] 15000000000 = none ∧
    decideBlock 1000000000 [1200000000, 310000000000, 2000000000, 900000000]
      [400000000000, 51000000000, 1100000000, 700000000] 13000000000 = none := by decide

/-- spec/05, completions by the plan: `11` goes on, `112` ends by early entry 3, urgent. -/
theorem test_plan_early_112 :
    let plan : Plan :=
      { lengths := (List.replicate 100 none).set 1 (some 10)
        early := (List.replicate 16 none).set 3 (some ⟨[1, 1, 2], true⟩) }
    plan.check [⟨1, .tone, false, false⟩, ⟨1, .tone, false, false⟩] = none ∧
    plan.check [⟨1, .tone, false, false⟩, ⟨1, .tone, false, false⟩, ⟨2, .tone, false, false⟩] =
      some (.early, some 3, true) := by decide

/-- spec/06, an induced hum: samples 100, 104, 1000 and 1014 of line 64. -/
theorem test_ac_average_line_64 :
    a16After 160 30 = 180 ∧ a16After 231 30 = 246 ∧ a16After 465 30 = 465 ∧ a16After 465 0 = 435 ∧
    a16After 183 0 = 171 := by decide

/-- spec/07, arbitration: looks 1, 4, 5, 7 and 8. -/
theorem test_arbitration :
    chooseList .priority 0 3 true true = some (.priority, 1) ∧ chooseList .priority 3 3 true true = some (.routine, 1) ∧
    chooseList .routine 1 1 true true = some (.priority, 1) ∧ chooseList .priority 2 3 false true = some (.routine, 1) ∧
    chooseList .routine 1 1 false false = none := by decide

/-- A profile record in range but for the fields of spec/07's reload example: k 2, flash_min 90, flash_max 95. -/
def record14 : List Byte :=
  layout 48 [byteField 0x00 1, byteField 0x01 1, halfField 0x04 80, halfField 0x06 100, byteField 0x08 20,
    byteField 0x09 2, halfField 0x0A 60, halfField 0x0C 30, halfField 0x0E 20, halfField 0x10 100, halfField 0x12 90,
    halfField 0x14 95, halfField 0x16 100, halfField 0x18 300, byteField 0x1A 55, byteField 0x1B 72, byteField 0x1C 10,
    byteField 0x1D 5, byteField 0x1E 10, byteField 0x1F 3, byteField 0x24 20, byteField 0x25 8, halfField 0x26 300,
    byteField 0x28 5, byteField 0x29 20]

/-- spec/07, a profile reload with clamped fields: three fields, and the values that line 14 takes. -/
theorem test_profile_line_14 :
    profileClamped record14 = 3 ∧ (parseProfile record14).k = 3 ∧ (parseProfile record14).flashMin = 101 ∧
    (parseProfile record14).flashMax = 101 := by decide +kernel

/-- spec/08, a wet pair: the verifications of the tip and the ring, and the mean of a negative reading. -/
theorem test_verified_readings :
    agrees 14 9 = false ∧ agrees 9 8 = true ∧ agrees (-31) (-30) = true ∧ agrees 52 50 = true ∧
    readingDc (List.replicate 19 0 ++ [-1]) = -1 ∧ readingDc (List.replicate 20 3000) = 2047 := by decide

/-- spec/08, a wet pair: R_TG, R_RG, R_TR and C_TR. -/
theorem test_quantities_line_22 :
    resistance 1000000 498 50 = (9960000, false) ∧ resistance 1000000 500 1 = (99999999, true) ∧
    resistance 1000 499 10 = (49900, false) ∧ (capacitanceQuantity ⟨0, false⟩ 185).value = 54 := by decide

/-- R174's example: the Routine list at 0x2300 passes, at 0x2100 it overlaps the journal. -/
theorem test_geometry_example :
    (parseGeometry (settingsWith 0x2300)).passes = true ∧ (parseGeometry (settingsWith 0x2100)).passes = false := by
  decide +kernel

/-- spec/11, Journal record: the kind byte, the line byte and the stamp of PARK on line 0. -/
theorem test_record_bytes : parkRecord.bytes = [4, 0, 0] ++ List.replicate 28 0 := by decide

/-- spec/11, Line status entry: hook, collection with receiver, T_on and the time of last change. -/
theorem test_entry_bytes :
    Line.entry { closed .active ⟨0, false⟩ with coll := { state := .collecting }, marks := ⟨true, true, 258⟩ } 15 =
      [3, 0xF1, 0, 3, 0, 0, 0, 0, 0xE8, 3, 0, 0, 2, 1, 0, 0] := by decide

/-- R175: IDENT; R176: CONTROL after reset with every enable. -/
theorem test_register_reads :
    State.reset.readRegister 0 = 0x0C960002#32 ∧
    (State.reset.setRun { enables := 63, control := .frozen, freezeAsked := true, startResult := .ok }).readRegister 4 =
      0x00133F03#32 := by decide

/-! ## One step each -/

/-- The state that a command answers; the machine has no other outcome. -/
def after (c : Instr) (s : State) : State :=
  match exec c s with
  | .next t => t
  | _ => s

theorem test_strobe_wraps : (after .strobeInstant { live with time := 0xFFFFFFFF#32 }).time = 0 := by decide
theorem test_link_lost_at_third :
    ((after (.linkLost 2) (live.setLink 2 { up := true, missing := 2 })).link 2).up = false := by decide
theorem test_link_not_lost_at_second :
    after (.linkLost 2) (live.setLink 2 { up := true, missing := 1 }) = live.setLink 2 { up := true, missing := 1 } := by
  decide +kernel
theorem test_duplicate_frame :
    after (.senseFrame 0 frame5) (live.setLink 0 { up := true, lastCount := 5 }) =
      live.setLink 0 { up := true, lastCount := 5 } := by decide +kernel
theorem test_seizure_staged :
    (after (.seizeConfirm 0 ⟨1000, 0, 50, 1⟩) (lineAt0 (closed .seizePending ⟨9, true⟩))).journal.queue.head? =
      some ⟨some 0, 0, .offHook 1000 false (some 250)⟩ := by decide +kernel
theorem test_release_from_parked :
    (after (.parkedRelease 0 ⟨0, 0, 0, 1⟩) (lineAt0 (opened .parkedOpen ⟨100, true⟩))).journal.queue.head? =
      some ⟨some 0, 0, .onHook .release true 0 0⟩ := by decide +kernel
theorem test_digit_end_appends :
    ((after (.digitEnd 0 ⟨1000, 0, 0, 1⟩)
      (lineAt0 { closed .active ⟨0, false⟩ with dec := train 10 999, coll := { state := .collecting } })).line 0).coll.string =
      [⟨0, .pulse, true, true⟩] := by decide +kernel
theorem test_first_digit_timeout_parks :
    ((after (.firstDigitTimeout 0 ⟨1000, 0, 0, 1⟩)
      (lineAt0 { closed .active ⟨0, false⟩ with coll := { state := .collecting, firstDigit := ⟨4999, true⟩ } })).line 0).sup.hook =
      .parked := by decide +kernel
theorem test_power_cross_guards :
    ((after (.powerCrossRaise 0 ⟨1000, 301, 0, 1⟩)
      (lineAt0 { closed .active ⟨0, false⟩ with fault := { powerCross := { state := .suspect }, run := 2 } })).line 0).sup.hook =
      .guard := by decide +kernel
theorem test_highway_lost :
    (after .highwayLost (live.setHighway { good := true, missing := 1 })).highway.good = false := by decide
theorem test_run_start_reads_settings :
    (after .runStart State.reset).run.port = .busy ⟨.start, false, 0, 64, [], 0⟩ true := by decide
theorem test_run_start_twice : after .runStart live = live := by decide +kernel
theorem test_freeze_at_free_port : (after (.freeze true) live).run.control = .frozen := by decide
theorem test_failed_access_recorded :
    (after .memoryAccessError (busy .running .journal true)).run.failed = some (access .journal true 1) := by decide
theorem test_block_parked_line :
    ((after (.block 0) ((taking 3 0 0).setLine 0 (opened .parked ⟨0, false⟩))).line 0).sup.hook = .blocked := by
  decide +kernel
theorem test_test_connects :
    (after (.lineTest 0) ((taking 1 0 0).setLine 0 (opened .onHook ⟨0, false⟩))).test.mask = 7 := by decide +kernel
theorem test_collision_is_a_finding : (after (.loopWatchRead 49) (charged 449)).test.finding = .foreignSource := by
  decide +kernel
theorem test_loop_watch_cuts : (after (.loopWatchRead (-50)) (charged 500)).test.seized = true := by decide +kernel
/-- R181, freeze asked 1: a batch owed stays owed at the end of the batch whose last write was retried. -/
theorem test_retry_to_frozen_owes :
    let t := after (.memoryAccessDone []) (retrying (access .journal true 1) { batchOwed := true, work := some ⟨.normal, 0, 1, .block⟩ })
    t.run.control = .frozen ∧ t.journal.work = none ∧ t.journal.batchOwed = true := by decide +kernel
/-- R181 and R126, freeze asked 1: after a retried DONE write no look is begun. -/
theorem test_retried_done_owes_its_look :
    let t := after (.memoryAccessDone [])
      ((retrying (access .executor true 1) {}).setExecutor { phase := .writeDone (order 3 0 0) })
    t.run.control = .frozen ∧ t.executor = { lookOwed := true } := by decide +kernel
/-- R165: the re-read owed is the suspended one, made at the return. -/
theorem test_suspended_recheck_is_the_one_owed :
    (after (.memoryAccessDone [1]) ((journalAt false ⟨.recheck, 0, 0, .readOwner⟩ []).setJournal
      { full := true, recheckOwed := true, work := some ⟨.recheck, 0, 0, .readOwner⟩ })).journal.recheckOwed = false := by
  decide +kernel
/-- R166: room_threshold becomes 0 before the room check has read. -/
theorem test_room_check_without_read :
    let t := after (.reloadSettings (List.replicate 64 0))
      ((executorAt (.executing (order 7 0 0) (.settings (List.replicate 192 0))) false 64).setJournal
        { roomLow := true, work := some ⟨.normal, 0, 1, .roomRead⟩ })
    t.journal.roomLow = false ∧ t.journal.work.map Work.step = some (.block) := by decide +kernel
/-- R141, R151: the single V1 reading is no series. -/
theorem test_single_reading_has_no_series : (after .pulseEnd (testAt (.pulse 9) 7)).test.series = {} := by
  decide +kernel
theorem test_area_base_low_bits :
    (after (.areaBase 0x12345FFF#32) State.reset).run.areaBase = 0x12345000#32 := by decide
theorem test_cause_clears : (after (.cause 5) (State.reset.setRun { causes := 7 })).run.causes = 2 := by decide
theorem test_soft_reset_keeps_base :
    (after .softReset (live.setRun { areaBase := 4096 })).run = { areaBase := 4096 } := by decide

/-! ## Witnesses of the invariants and of the statements over every command -/

/-- Receiver 0 attached, the others out of use, and a line that waits; a NUDGE stands first. -/
def waiting : State :=
  { (State.setReceiver { live with pool := { rx := Vector.replicate 8 { state := .disabled } } } 0
      { state := .attached, line := some 5 }).setQueue [⟨6, 0, false⟩] with pending := [.nudge 0] }

theorem witness_StepRunsFrontCommand : ∃ s : State, s.pending = [] := ⟨State.reset, rfl⟩

theorem witness_CommandsKeepWhatOthersOwn :
    ∃ (c : Instr) (s t : State), exec c s = .next t ∧ c.isStrobe = false ∧ c.isReset = false ∧
      (∀ v, c ≠ .areaBase v) ∧ (∀ m, c ≠ .enables m) ∧ (∀ v, c ≠ .cause v) ∧ s.run.causes.getLsbD 0 = true :=
  ⟨.nudge 0, live.setRun { causes := 1 }, _, rfl, rfl, rfl, by simp, by simp, by simp, by decide⟩

theorem witness_ControlStateMovesByItsTable :
    ∃ (c : Instr) (s t : State), s.finalInStopping ∧ c.isReset = false ∧ exec c s = .next t :=
  ⟨.runStart, State.reset, _, fun w h => (by cases h), rfl, rfl⟩

theorem witness_PortQuietAndFinalBatchKept :
    ∃ s t : State, s.portQuiet ∧ s.finalInStopping ∧ step s = .next t :=
  ⟨State.reset.withPending [.runStart], _, fun _ => rfl, fun w h => (by cases h), rfl⟩

theorem witness_SoundStateKept : ∃ s t : State, s.sound ∧ step s = .next t :=
  ⟨waiting, _, by unfold State.sound; decide +kernel, rfl⟩

theorem witness_PoolExclusivityKept : ∃ s t : State, s.poolSound ∧ s.pool.queue ≠ [] ∧ step s = .next t :=
  ⟨waiting, _, by unfold State.poolSound; decide +kernel, by decide, rfl⟩

theorem witness_NoReceiverFreeWhileALineWaits :
    ∃ s t : State, s.noIdleReceiver ∧ s.pool.queue ≠ [] ∧ step s = .next t :=
  ⟨waiting, _, fun _ => by decide, by decide, rfl⟩

theorem witness_SampleRowsTouchOneLine :
    ∃ (c : Instr) (s t : State) (L : LineNo) (smp : Sample), c.sampleOf = some (L, smp) ∧ exec c s = .next t :=
  ⟨.release 0 ⟨0, 0, 0, 1⟩, lineAt0 (opened .openInterval ⟨100, true⟩), _, 0, ⟨0, 0, 0, 1⟩, rfl, rfl⟩

theorem witness_SampleKeepsReceiversOfOthers :
    ∃ (c : Instr) (s t : State) (L K : LineNo) (smp : Sample) (r : RxNo), c.sampleOf = some (L, smp) ∧
      exec c s = .next t ∧ K ≠ L ∧ (s.receiver r).state = .attached ∧ (s.receiver r).line = some K :=
  ⟨.release 0 ⟨0, 0, 0, 1⟩, waiting, _, 0, 5, ⟨0, 0, 0, 1⟩, 0, rfl, rfl, by decide, by decide, by decide⟩

/-- Each line at one receiver or place at most, on the state of each statement that uses it as a premise inside. -/
theorem witness_pool_premise : (lineAt0 (opened .openInterval ⟨100, true⟩)).poolSound := by
  unfold State.poolSound; decide +kernel

theorem witness_AgreementFilterStep :
    ∃ (c : Conditioner) (x y : LoopState), c.pa = x ∧ c.qa = x ∧ c.pb = x ∧ c.qb = x ∧ x ≠ y :=
  ⟨{}, .noLoop, .loop, by decide⟩

theorem witness_BlockDecisionGivesTheKey :
    ∃ (floor : Nat) (rows columns : List Nat), 1 ≤ floor ∧ rows.length = 4 ∧ columns.length = 4 :=
  ⟨1, [0, 0, 0, 0], [0, 0, 0, 0], by decide⟩

theorem witness_DigitStatesByTheirTable : ∃ a b : Symbol, a ≠ b := ⟨0, 15, by decide⟩

theorem witness_RunStartAndRunStopByControlState_1 : ∃ s : State, s.run.control = .stopped ∧ s.run.port = .free :=
  ⟨State.reset, by decide⟩

theorem witness_TheRegisterWindow :
    (∃ offset : Nat, offset ≠ 0x00 ∧ offset ≠ 0x04 ∧ offset ≠ 0x08 ∧ offset ≠ 0x0C ∧ offset ≠ 0x10) ∧
    (∃ s : State, s.run.control = .stopped ∨ s.run.control = .frozen) ∧
    ∃ s : State, s.run.control ≠ .stopped ∧ s.run.control ≠ .frozen :=
  ⟨⟨0x14, by decide⟩, ⟨State.reset, by decide⟩, ⟨live, by decide⟩⟩

/-! ## Witnesses of the statements about one command -/

theorem witness_LinkLossIsStagedUrgent_1 :
    ∃ (s : State) (g : LinkNo),
      s.run.control.live = true ∧
      (s.link g).up = true ∧
      (s.link g).credit = false ∧
      2 ≤ (s.link g).missing ∧
      s.journal.queue.length ≤ 20 :=
  ⟨live.setLink 11 { up := true, missing := 2 }, 11, by decide⟩

theorem witness_LinkLossIsStagedUrgent_2 :
    ∃ (s : State) (g : LinkNo),
      s.run.control.live = true ∧
      (s.link g).up = true ∧
      (s.link g).credit = false ∧
      2 ≤ (s.link g).missing ∧
      32 ≤ s.journal.queue.length :=
  ⟨fullQueue.setLink 0 { up := true, missing := 2 }, 0, by decide⟩

theorem witness_FrameAtUpLink_1a :
    ∃ (s : State) (g : LinkNo) (bs : List Byte) (fr : Frame),
      s.run.control.live = true ∧
      (s.link g).up = true ∧
      parseFrame bs = some fr :=
  ⟨live.setLink 0 { up := true, lastCount := 4 }, 0, frame5, zeroFrame, by decide⟩

theorem witness_FrameAtUpLink_1b :
    ∃ (s : State) (g : LinkNo) (bs : List Byte) (fr : Frame),
      s.run.control.live = true ∧
      (s.link g).up = true ∧
      parseFrame bs = some fr :=
  ⟨live.setLink 0 { up := true, lastCount := 5 }, 0, frame5, zeroFrame, by decide⟩

theorem witness_FrameAtUpLink_2a :
    ∃ (s : State) (g : LinkNo) (bs : List Byte),
      (s.run.control.live = false ∨ ((s.link g).up = true ∧ parseFrame bs = none)) :=
  ⟨live.setLink 0 { up := true }, 0, [], by decide⟩

theorem witness_FrameAtUpLink_2b :
    ∃ (s : State) (g : LinkNo) (bs : List Byte),
      (s.run.control.live = false ∨ ((s.link g).up = true ∧ parseFrame bs = none)) :=
  ⟨State.reset, 0, frame5, by decide⟩

theorem witness_FrameAtUpLink_3a :
    ∃ (s : State) (g : LinkNo) (bs : List Byte) (fr : Frame) (p : Fin 8) (e : Nat),
      s.run.control.live = true ∧
      (s.link g).up = true ∧
      parseFrame bs = some fr ∧
      (e : Int) = ((fr.count : Int) - (s.link g).lastCount) % 16 ∧
      e ≠ 0 ∧
      (s.line (lineAt g p)).sup.hook = .active ∧
      (s.line (lineAt g p)).dec.trainOpen = false ∧
      (s.line (lineAt g p)).coll.state = .collecting ∧
      (s.line (lineAt g p)).noTimeout e = true ∧
      (fr.triples.getD p.val ⟨0, 0, 0⟩).vt.natAbs ≤ 300 ∧
      (fr.triples.getD p.val ⟨0, 0, 0⟩).vr.natAbs ≤ 300 :=
  ⟨(live.setLink 0 { up := true, lastCount := 4 }).setLine 0 { closed .active ⟨0, false⟩ with coll := { state := .collecting, firstDigit := ⟨0, true⟩ } }, 0, frame5, zeroFrame, 0, 1, by decide⟩

theorem witness_FrameAtUpLink_3b :
    ∃ (s : State) (g : LinkNo) (bs : List Byte) (fr : Frame) (p : Fin 8) (e : Nat),
      s.run.control.live = true ∧
      (s.link g).up = true ∧
      parseFrame bs = some fr ∧
      (e : Int) = ((fr.count : Int) - (s.link g).lastCount) % 16 ∧
      e ≠ 0 ∧
      (s.line (lineAt g p)).sup.hook = .active ∧
      (s.line (lineAt g p)).dec.trainOpen = false ∧
      (s.line (lineAt g p)).coll.state = .collecting ∧
      (s.line (lineAt g p)).noTimeout e = true ∧
      (fr.triples.getD p.val ⟨0, 0, 0⟩).vt.natAbs ≤ 300 ∧
      (fr.triples.getD p.val ⟨0, 0, 0⟩).vr.natAbs ≤ 300 :=
  ⟨(live.setLink 0 { up := true, lastCount := 6 }).setLine 0 { closed .active ⟨0, false⟩ with coll := { state := .collecting, firstDigit := ⟨0, true⟩ } }, 0, frame5, zeroFrame, 0, 15, by decide⟩

theorem witness_AcceptedFrameStepsEachLine :
    ∃ (s : State) (g : LinkNo) (bs : List Byte) (fr : Frame),
      s.run.control.live = true ∧
      (s.link g).up = true ∧
      parseFrame bs = some fr ∧
      ((fr.count : Int) - (s.link g).lastCount) % 16 ≠ 0 :=
  ⟨live.setLink 0 { up := true, lastCount := 4 }, 0, frame5, zeroFrame, by decide⟩

theorem witness_FrameAtDownLink_1 :
    ∃ (s : State) (g : LinkNo) (bs : List Byte),
      s.run.control.live = true ∧
      (s.link g).up = false ∧
      parseFrame bs = none :=
  ⟨live, 0, [], by decide⟩

theorem witness_FrameAtDownLink_2a :
    ∃ (s : State) (g : LinkNo) (bs : List Byte) (fr : Frame),
      s.run.control.live = true ∧
      (s.link g).up = false ∧
      parseFrame bs = some fr ∧
      ((s.link g).runCount < 3 ∨ fr.count ≠ ((s.link g).lastCount + 1) % 16) :=
  ⟨live.setLink 0 { runCount := 2, lastCount := 4 }, 0, frame5, zeroFrame, by decide⟩

theorem witness_FrameAtDownLink_2b :
    ∃ (s : State) (g : LinkNo) (bs : List Byte) (fr : Frame),
      s.run.control.live = true ∧
      (s.link g).up = false ∧
      parseFrame bs = some fr ∧
      ((s.link g).runCount < 3 ∨ fr.count ≠ ((s.link g).lastCount + 1) % 16) :=
  ⟨live.setLink 0 { runCount := 3, lastCount := 3 }, 0, frame5, zeroFrame, by decide⟩

theorem witness_LinkRestoredByFourthFrame :
    ∃ (s : State) (g : LinkNo) (bs : List Byte) (fr : Frame),
      s.run.control.live = true ∧
      (s.link g).up = false ∧
      parseFrame bs = some fr ∧
      3 ≤ (s.link g).runCount ∧
      fr.count = ((s.link g).lastCount + 1) % 16 :=
  ⟨live.setLink 0 { runCount := 3, lastCount := 4, reportRestore := true }, 0, frame5, zeroFrame, by decide⟩

theorem witness_ConfirmedSeizureOpensTheCall :
    ∃ (s : State) (L : LineNo) (smp : Sample),
      s.sampleArrives L smp = true ∧
      (s.line L).sup.hook = .seizePending ∧
      (s.line L).filtered smp.i = .loop ∧
      (s.line L).sup.timer.running = true ∧
      (s.line L).profile.seizeConfirm ≤ min 65535 ((s.line L).sup.timer.value + smp.elapsed.val) ∧
      (s.line L).dec.trainOpen = false ∧
      s.served L = false ∧
      sampleHigh smp = false :=
  ⟨lineAt0 (closed .seizePending ⟨9, true⟩), 0, ⟨1000, 0, 50, 1⟩, by decide⟩

theorem witness_ReleaseEndsTheCalla :
    ∃ (s : State) (L : LineNo) (smp : Sample) (parked : Bool),
      s.sampleArrives L smp = true ∧
      (s.line L).sup.hook = (if parked then .parkedOpen else .openInterval) ∧
      (s.line L).sup.timer.running = true ∧
      (s.line L).profile.flashMax + 1 ≤ min 65535 ((s.line L).sup.timer.value + smp.elapsed.val) ∧
      sampleHigh smp = false :=
  ⟨lineAt0 (opened .openInterval ⟨100, true⟩), 0, ⟨0, 0, 0, 1⟩, false, by decide⟩

theorem witness_ReleaseEndsTheCallb :
    ∃ (s : State) (L : LineNo) (smp : Sample) (parked : Bool),
      s.sampleArrives L smp = true ∧
      (s.line L).sup.hook = (if parked then .parkedOpen else .openInterval) ∧
      (s.line L).sup.timer.running = true ∧
      (s.line L).profile.flashMax + 1 ≤ min 65535 ((s.line L).sup.timer.value + smp.elapsed.val) ∧
      sampleHigh smp = false :=
  ⟨lineAt0 (opened .parkedOpen ⟨100, true⟩), 0, ⟨0, 0, 0, 1⟩, true, by decide⟩

theorem witness_TrainEndHandsOnTheDigita :
    ∃ (s : State) (L : LineNo) (smp : Sample),
      s.sampleArrives L smp = true ∧
      (s.line L).trainEnds smp = true ∧
      sampleHigh smp = false :=
  ⟨lineAt0 { closed .active ⟨0, false⟩ with dec := train 3 999 }, 0, ⟨1000, 0, 0, 1⟩, by decide⟩

theorem witness_TrainEndHandsOnTheDigitb :
    ∃ (s : State) (L : LineNo) (smp : Sample),
      s.sampleArrives L smp = true ∧
      (s.line L).trainEnds smp = true ∧
      sampleHigh smp = false :=
  ⟨lineAt0 { closed .openInterval ⟨4, true⟩ with dec := train 3 995 }, 0, ⟨1000, 0, 0, 1⟩, by decide⟩

theorem witness_TrainEndHandsOnTheDigitc :
    ∃ (s : State) (L : LineNo) (smp : Sample),
      s.sampleArrives L smp = true ∧
      (s.line L).trainEnds smp = true ∧
      sampleHigh smp = false :=
  ⟨lineAt0 { closed .active ⟨0, false⟩ with dec := train 3 999, coll := { state := .done } }, 0, ⟨1000, 0, 0, 1⟩, by decide⟩

theorem witness_FirstDigitTimeoutParksTheLinea :
    ∃ (s : State) (L : LineNo) (smp : Sample),
      s.sampleArrives L smp = true ∧
      (s.line L).staysInCall smp = true ∧
      sampleHigh smp = false ∧
      (s.line L).coll.state = .collecting ∧
      (s.line L).coll.firstDigit.running = true ∧
      1000 * (s.line L).profile.firstDigitTimeout ≤ min 65535 ((s.line L).coll.firstDigit.value + smp.elapsed.val) :=
  ⟨lineAt0 { closed .active ⟨0, false⟩ with coll := { state := .collecting, firstDigit := ⟨4999, true⟩ } }, 0, ⟨1000, 0, 0, 1⟩, by decide⟩

theorem witness_FirstDigitTimeoutParksTheLineb :
    ∃ (s : State) (L : LineNo) (smp : Sample),
      s.sampleArrives L smp = true ∧
      (s.line L).staysInCall smp = true ∧
      sampleHigh smp = false ∧
      (s.line L).coll.state = .collecting ∧
      (s.line L).coll.firstDigit.running = true ∧
      1000 * (s.line L).profile.firstDigitTimeout ≤ min 65535 ((s.line L).coll.firstDigit.value + smp.elapsed.val) :=
  ⟨lineAt0 { opened .active ⟨0, false⟩ with coll := { state := .collecting, firstDigit := ⟨4999, true⟩ } }, 0, ⟨0, 0, 0, 1⟩, by decide⟩

theorem witness_InterdigitTimeoutCompletesTheNumber :
    ∃ (s : State) (L : LineNo) (smp : Sample),
      s.sampleArrives L smp = true ∧
      (s.line L).staysInCall smp = true ∧
      sampleHigh smp = false ∧
      (s.line L).coll.state = .collecting ∧
      (s.line L).coll.firstDigit.running = false ∧
      (s.line L).coll.interdigit.running = true ∧
      1000 * (s.line L).profile.interdigitTimeout ≤ min 65535 ((s.line L).coll.interdigit.value + smp.elapsed.val) :=
  ⟨lineAt0 { closed .active ⟨0, false⟩ with coll := { state := .collecting, interdigit := ⟨1999, true⟩ } }, 0, ⟨1000, 0, 0, 1⟩, by decide⟩

theorem witness_ToneWindowExpiryHandsTheReceiverOver :
    ∃ (s : State) (L : LineNo) (smp : Sample) (r : RxNo),
      s.sampleArrives L smp = true ∧
      (s.line L).staysInCall smp = true ∧
      sampleHigh smp = false ∧
      (s.line L).noTimeout smp.elapsed.val = true ∧
      s.receiverOf L = some r ∧
      (s.receiver r).window.running = true ∧
      1000 * (s.line L).profile.toneWindow ≤ min 65535 ((s.receiver r).window.value + smp.elapsed.val) :=
  ⟨(lineAt0 (closed .active ⟨0, false⟩)).setReceiver 7 { state := .attached, line := some 0, window := ⟨1999, true⟩ }, 0, ⟨1000, 0, 0, 1⟩, 7, by decide⟩

theorem witness_QueueWaitNoticeOncePerWait_1 :
    ∃ (s : State) (L : LineNo) (smp : Sample) (q : QueueEntry),
      s.sampleArrives L smp = true ∧
      (s.line L).staysInCall smp = true ∧
      sampleHigh smp = false ∧
      (s.line L).noTimeout smp.elapsed.val = true ∧
      s.receiverOf L = none ∧
      s.pool.queue.find? (fun x => decide (x.line = L)) = some q ∧
      q.noticed = false ∧
      1000 * (s.line L).profile.queueWaitNotice ≤ min 65535 (q.wait + smp.elapsed.val) :=
  ⟨(lineAt0 (closed .active ⟨0, false⟩)).setQueue [⟨5, 0, false⟩, ⟨0, 999, false⟩], 0, ⟨1000, 0, 0, 1⟩, ⟨0, 999, false⟩, by decide⟩

theorem witness_QueueWaitNoticeOncePerWait_2 :
    ∃ (s : State) (c : Instr) (L : LineNo) (smp : Sample) (q : QueueEntry),
      c.sampleOf = some (L, smp) ∧
      s.receiverOf L = none ∧
      s.pool.queue.find? (fun x => decide (x.line = L)) = some q ∧
      q.noticed = true :=
  ⟨(lineAt0 (closed .active ⟨0, false⟩)).setQueue [⟨5, 0, false⟩, ⟨0, 999, true⟩], .queueWaitNotice 0 ⟨1000, 0, 0, 1⟩, 0, ⟨1000, 0, 0, 1⟩, ⟨0, 999, true⟩, by decide⟩

theorem witness_ConditionConfirmRaisesa :
    ∃ (s : State) (L : LineNo) (c : Condition) (smp : Sample) (value : Nat),
      s.sampleArrives L smp = true ∧
      (s.line L).evaluates c smp true value = true ∧
      ((s.line L).fault.get c).state = .suspect ∧
      ((s.line L).fault.get c).timer.running = true ∧
      100 * (s.line L).profile.dcConfirm ≤ min 65535 (((s.line L).fault.get c).timer.value + smp.elapsed.val) ∧
      s.journal.queue.length ≤ 16 :=
  ⟨lineAt0 { opened .onHook ⟨0, false⟩ with fault := { foreignDc := { state := .suspect, timer := ⟨99, true⟩ } } }, 0, .foreignDc, ⟨0, 5, 0, 1⟩, 5, by decide⟩

theorem witness_ConditionConfirmRaisesb :
    ∃ (s : State) (L : LineNo) (c : Condition) (smp : Sample) (value : Nat),
      s.sampleArrives L smp = true ∧
      (s.line L).evaluates c smp true value = true ∧
      ((s.line L).fault.get c).state = .suspect ∧
      ((s.line L).fault.get c).timer.running = true ∧
      100 * (s.line L).profile.dcConfirm ≤ min 65535 (((s.line L).fault.get c).timer.value + smp.elapsed.val) ∧
      s.journal.queue.length ≤ 16 :=
  ⟨lineAt0 { opened .blocked ⟨0, false⟩ with fault := { acInduced := { state := .suspect, timer := ⟨99, true⟩ }, a16 := 40 } }, 0, .acInduced, ⟨0, 0, 0, 1⟩, 2, by decide⟩

theorem witness_ConditionConfirmRaisesc :
    ∃ (s : State) (L : LineNo) (c : Condition) (smp : Sample) (value : Nat),
      s.sampleArrives L smp = true ∧
      (s.line L).evaluates c smp true value = true ∧
      ((s.line L).fault.get c).state = .suspect ∧
      ((s.line L).fault.get c).timer.running = true ∧
      100 * (s.line L).profile.dcConfirm ≤ min 65535 (((s.line L).fault.get c).timer.value + smp.elapsed.val) ∧
      s.journal.queue.length ≤ 16 :=
  ⟨lineAt0 (leaking { leakage := { state := .suspect, timer := ⟨99, true⟩ } }), 0, .leakage, ⟨20, 0, 0, 1⟩, 20, by decide⟩

theorem witness_ConditionConfirmRaisesd :
    ∃ (s : State) (L : LineNo) (c : Condition) (smp : Sample) (value : Nat),
      s.sampleArrives L smp = true ∧
      (s.line L).evaluates c smp true value = true ∧
      ((s.line L).fault.get c).state = .suspect ∧
      ((s.line L).fault.get c).timer.running = true ∧
      100 * (s.line L).profile.dcConfirm ≤ min 65535 (((s.line L).fault.get c).timer.value + smp.elapsed.val) ∧
      s.journal.queue.length ≤ 16 :=
  ⟨lineAt0 { closed .parked ⟨0, false⟩ with fault := { loopShort := { state := .suspect, timer := ⟨99, true⟩ } }, profile := { shortLimit := 1 } }, 0, .loopShort, ⟨1000, 0, 0, 1⟩, 0, by decide⟩

theorem witness_ConditionClearStagesFaultCleareda :
    ∃ (s : State) (L : LineNo) (c : Condition) (smp : Sample) (value : Nat),
      s.sampleArrives L smp = true ∧
      (s.line L).evaluates c smp false value = true ∧
      ((s.line L).fault.get c).state = .clearing ∧
      ((s.line L).fault.get c).timer.running = true ∧
      100 * (s.line L).profile.clearTime ≤ min 65535 (((s.line L).fault.get c).timer.value + smp.elapsed.val) ∧
      s.journal.queue.length ≤ 16 :=
  ⟨lineAt0 { opened .onHook ⟨0, false⟩ with fault := { foreignDc := { state := .clearing, timer := ⟨499, true⟩ } } }, 0, .foreignDc, ⟨0, 4, 0, 1⟩, 4, by decide⟩

theorem witness_ConditionClearStagesFaultClearedb :
    ∃ (s : State) (L : LineNo) (c : Condition) (smp : Sample) (value : Nat),
      s.sampleArrives L smp = true ∧
      (s.line L).evaluates c smp false value = true ∧
      ((s.line L).fault.get c).state = .clearing ∧
      ((s.line L).fault.get c).timer.running = true ∧
      100 * (s.line L).profile.clearTime ≤ min 65535 (((s.line L).fault.get c).timer.value + smp.elapsed.val) ∧
      s.journal.queue.length ≤ 16 :=
  ⟨lineAt0 { opened .blocked ⟨0, false⟩ with fault := { acInduced := { state := .clearing, timer := ⟨499, true⟩ } } }, 0, .acInduced, ⟨0, 0, 0, 1⟩, 0, by decide⟩

theorem witness_ConditionClearStagesFaultClearedc :
    ∃ (s : State) (L : LineNo) (c : Condition) (smp : Sample) (value : Nat),
      s.sampleArrives L smp = true ∧
      (s.line L).evaluates c smp false value = true ∧
      ((s.line L).fault.get c).state = .clearing ∧
      ((s.line L).fault.get c).timer.running = true ∧
      100 * (s.line L).profile.clearTime ≤ min 65535 (((s.line L).fault.get c).timer.value + smp.elapsed.val) ∧
      s.journal.queue.length ≤ 16 :=
  ⟨lineAt0 { opened .onHook ⟨0, false⟩ with fault := { leakage := { state := .clearing, timer := ⟨499, true⟩ } } }, 0, .leakage, ⟨10, 0, 0, 1⟩, 10, by decide⟩

theorem witness_ConditionClearStagesFaultClearedd :
    ∃ (s : State) (L : LineNo) (c : Condition) (smp : Sample) (value : Nat),
      s.sampleArrives L smp = true ∧
      (s.line L).evaluates c smp false value = true ∧
      ((s.line L).fault.get c).state = .clearing ∧
      ((s.line L).fault.get c).timer.running = true ∧
      100 * (s.line L).profile.clearTime ≤ min 65535 (((s.line L).fault.get c).timer.value + smp.elapsed.val) ∧
      s.journal.queue.length ≤ 16 :=
  ⟨lineAt0 { closed .parked ⟨0, false⟩ with fault := { loopShort := { state := .clearing, timer := ⟨499, true⟩ } } }, 0, .loopShort, ⟨1000, 0, 0, 1⟩, 0, by decide⟩

theorem witness_PowerCrossRaiseGuardsTheLine :
    ∃ (s : State) (L : LineNo) (smp : Sample),
      s.sampleArrives L smp = true ∧
      sampleHigh smp = true ∧
      (s.line L).fault.powerCross.state = .suspect ∧
      2 ≤ (s.line L).fault.run ∧
      (s.line L).sup.hook ≠ .notEquipped ∧
      (s.line L).sup.hook ≠ .testing ∧
      (s.line L).sup.hook ≠ .guard :=
  ⟨lineAt0 { closed .active ⟨0, false⟩ with fault := { powerCross := { state := .suspect }, run := 2 } }, 0, ⟨1000, 301, 0, 1⟩, by decide⟩

theorem witness_PowerCrossClearEndsTheGuard :
    ∃ (s : State) (L : LineNo) (smp : Sample),
      s.sampleArrives L smp = true ∧
      sampleHigh smp = false ∧
      (s.line L).sup.hook = .guard ∧
      (s.line L).fault.powerCross.state = .clearing ∧
      (s.line L).fault.powerCross.timer.running = true ∧
      2000 ≤ min 65535 ((s.line L).fault.powerCross.timer.value + smp.elapsed.val) :=
  ⟨lineAt0 { opened .guard ⟨0, false⟩ with fault := { powerCross := { state := .clearing, timer := ⟨1999, true⟩ } } }, 0, ⟨0, 300, -300, 1⟩, by decide⟩

theorem witness_HighwayLossDiscardsPartialBlocks :
    ∃ (s : State),
      s.run.control.live = true ∧
      s.highway.good = true ∧
      s.highway.credit = false ∧
      1 ≤ s.highway.missing :=
  ⟨live.setHighway { good := true, missing := 1 }, by decide⟩

theorem witness_HighwayFrameFeedsTheReceivers_1 :
    ∃ (s : State) (slots : List (BitVec 16)),
      s.run.control.live = true ∧
      slots.length = 128 ∧
      s.highway.good = true ∧
      (∀ q, (s.receiver q).state = .attached → (s.receiver q).blockCount + 1 < 160) :=
  ⟨(live.setHighway { good := true }).setReceiver 0 { state := .attached, line := some 95, blockCount := 158 }, slots, by decide +kernel⟩

theorem witness_HighwayFrameFeedsTheReceivers_2 :
    ∃ (s : State) (slots : List (BitVec 16)),
      s.run.control.live = true ∧
      slots.length = 128 ∧
      s.highway.good = false ∧
      s.highway.goodRun < 7 :=
  ⟨live.setHighway { goodRun := 6 }, slots, by decide +kernel⟩

theorem witness_HighwayFrameFeedsTheReceivers_3a :
    ∃ (s : State) (slots : List (BitVec 16)),
      s.run.control.live = true ∧
      slots.length ≠ 128 :=
  ⟨live, [], by decide⟩

theorem witness_HighwayFrameFeedsTheReceivers_3b :
    ∃ (s : State) (slots : List (BitVec 16)),
      s.run.control.live = true ∧
      slots.length ≠ 128 :=
  ⟨live, slots.drop 1, by decide +kernel⟩

theorem witness_HighwayFrameFeedsTheReceivers_4 :
    ∃ (s : State),
      s.run.control.live = false :=
  ⟨State.reset, by decide⟩

theorem witness_HighwayRestoredByEighthFrame :
    ∃ (s : State) (slots : List (BitVec 16)),
      s.run.control.live = true ∧
      slots.length = 128 ∧
      s.highway.good = false ∧
      7 ≤ s.highway.goodRun :=
  ⟨live.setHighway { goodRun := 7, reportRestore := true }, slots, by decide +kernel⟩

theorem witness_BlockEndStepsTheDigitState :
    ∃ (s : State) (slots : List (BitVec 16)) (r : RxNo) (L : LineNo),
      s.run.control.live = true ∧
      slots.length = 128 ∧
      s.highway.good = true ∧
      (s.receiver r).state = .attached ∧
      (s.receiver r).line = some L ∧
      159 ≤ (s.receiver r).blockCount ∧
      (∀ q, q ≠ r → (s.receiver q).state = .attached → (s.receiver q).blockCount + 1 < 160) :=
  ⟨(live.setHighway { good := true }).setReceiver 0 { state := .attached, line := some 95, blockCount := 159 }, slots, 0, 95, by decide +kernel⟩

theorem witness_BatchTimerExpiryIsATrigger_1 :
    ∃ (s : State),
      s.journal.delay.timer.running = true ∧
      s.journal.delay.limit ≤ s.journal.delay.timer.value + 1 :=
  ⟨live.setJournal { delay := ⟨⟨4, true⟩, 5⟩ }, by decide⟩

theorem witness_BatchTimerExpiryIsATrigger_2 :
    ∃ (s : State),
      s.journal.delay.expires = false ∧
      s.journal.absolute.timer.running = true ∧
      s.journal.absolute.limit ≤ s.journal.absolute.timer.value + 1 :=
  ⟨live.setJournal { absolute := ⟨⟨4, true⟩, 5⟩ }, by decide⟩

theorem witness_PollAndNudgeReachBothUnits_1 :
    ∃ (s : State),
      s.run.control.live = true ∧
      s.executor.poll.running = true ∧
      s.settings.orderPoll ≤ s.executor.poll.value + 1 :=
  ⟨live.setExecutor { poll := ⟨0, true⟩ }, by decide⟩

theorem witness_WrittenRecordLeavesTheQueuea :
    ∃ (s : State) (a : Access) (k : WorkKind) (n : Nat) (w : Nat) (r : Record) (q : List Record),
      s.inFlight = some a ∧
      a.unit = .journal ∧
      a.write = true ∧
      s.journal.work = some ⟨k, n, w, .writeFilled⟩ ∧
      s.journal.queue = r :: q :=
  ⟨journalAt true ⟨.normal, 1, 0, .writeFilled⟩ [parkRecord], access .journal true 1, .normal, 1, 0, parkRecord, [], by decide⟩

theorem witness_WrittenRecordLeavesTheQueueb :
    ∃ (s : State) (a : Access) (k : WorkKind) (n : Nat) (w : Nat) (r : Record) (q : List Record),
      s.inFlight = some a ∧
      a.unit = .journal ∧
      a.write = true ∧
      s.journal.work = some ⟨k, n, w, .writeFilled⟩ ∧
      s.journal.queue = r :: q :=
  ⟨{ journalAt true ⟨.normal, 2, 0, .writeFilled⟩ [parkRecord, parkRecord] with geometry := { journalLength := 16 } }, access .journal true 1, .normal, 2, 0, parkRecord, [parkRecord], by decide⟩

theorem witness_OwnerReadFindsEmptyOrFulla :
    ∃ (s : State) (a : Access) (k : WorkKind) (n : Nat) (w : Nat),
      s.inFlight = some a ∧
      a.unit = .journal ∧
      a.write = false ∧
      a.length = 1 ∧
      s.journal.work = some ⟨k, n, w, .readOwner⟩ :=
  ⟨journalAt false ⟨.normal, 1, 0, .readOwner⟩ [parkRecord], access .journal false 1, .normal, 1, 0, by decide⟩

theorem witness_OwnerReadFindsEmptyOrFullb :
    ∃ (s : State) (a : Access) (k : WorkKind) (n : Nat) (w : Nat),
      s.inFlight = some a ∧
      a.unit = .journal ∧
      a.write = false ∧
      a.length = 1 ∧
      s.journal.work = some ⟨k, n, w, .readOwner⟩ :=
  ⟨journalAt false ⟨.recheck, 0, 0, .readOwner⟩ [parkRecord], access .journal false 1, .recheck, 0, 0, by decide⟩

theorem witness_OwnerReadFindsEmptyOrFullc :
    ∃ (s : State) (a : Access) (k : WorkKind) (n : Nat) (w : Nat),
      s.inFlight = some a ∧
      a.unit = .journal ∧
      a.write = false ∧
      a.length = 1 ∧
      s.journal.work = some ⟨k, n, w, .readOwner⟩ :=
  ⟨retrying (access .journal false 1) { full := true, work := some ⟨.recheck, 0, 0, .readOwner⟩ }, access .journal false 1, .recheck, 0, 0, by decide⟩

theorem witness_BatchEndsWithItsCauseAndTheWorkOweda :
    ∃ (s : State) (a : Access) (n : Nat) (w : Nat),
      s.inFlight = some a ∧
      a.unit = .journal ∧
      a.write = true ∧
      s.journal.work = some ⟨.normal, n, w, .block⟩ :=
  ⟨journalAt true ⟨.normal, 0, 1, .block⟩ [], access .journal true 1, 0, 1, by decide⟩

theorem witness_BatchEndsWithItsCauseAndTheWorkOwedb :
    ∃ (s : State) (a : Access) (n : Nat) (w : Nat),
      s.inFlight = some a ∧
      a.unit = .journal ∧
      a.write = true ∧
      s.journal.work = some ⟨.normal, n, w, .block⟩ :=
  ⟨retrying (access .journal true 1) { batchOwed := true, work := some ⟨.normal, 0, 1, .block⟩ }, access .journal true 1, 0, 1, by decide⟩

theorem witness_BatchEndsWithItsCauseAndTheWorkOwedc :
    ∃ (s : State) (a : Access) (n : Nat) (w : Nat),
      s.inFlight = some a ∧
      a.unit = .journal ∧
      a.write = true ∧
      s.journal.work = some ⟨.normal, n, w, .block⟩ :=
  ⟨(journalAt true ⟨.normal, 0, 0, .block⟩ []).setJournal { full := true, recheckOwed := true, work := some ⟨.normal, 0, 0, .block⟩ }, access .journal true 1, 0, 0, by decide⟩

theorem witness_FinalBatchEndsTheStop :
    ∃ (s : State) (a : Access) (n : Nat) (w : Nat),
      s.run.control = .stopping ∧
      s.run.port = .busy a true ∧
      a.unit = .journal ∧
      a.write = true ∧
      s.journal.work = some ⟨.final, n, w, .block⟩ :=
  ⟨(journalAt true ⟨.final, 0, 1, .block⟩ []).setRun { control := .stopping, port := .busy (access .journal true 1) true }, access .journal true 1, 0, 1, by decide⟩

theorem witness_FailedAccessByControlState_1a :
    ∃ (s : State) (a : Access) (live : Bool) (c : Instr),
      s.run.port = .busy a live ∧
      (c = .memoryAccessError ∨ c = .memoryAccessTimeout) :=
  ⟨busy .running .journal true, access .journal true 1, true, .memoryAccessError, by decide⟩

theorem witness_FailedAccessByControlState_1b :
    ∃ (s : State) (a : Access) (live : Bool) (c : Instr),
      s.run.port = .busy a live ∧
      (c = .memoryAccessError ∨ c = .memoryAccessTimeout) :=
  ⟨busy .starting .start true, access .start true 1, true, .memoryAccessTimeout, by decide⟩

theorem witness_FailedAccessByControlState_2 :
    ∃ (s : State) (c : Instr),
      s.run.port = .free ∧
      (c = .memoryAccessError ∨ c = .memoryAccessTimeout) :=
  ⟨live, .memoryAccessError, by decide⟩

theorem witness_StartChecksTheGeometry :
    ∃ (s : State) (a : Access) (live : Bool) (data : List Byte) (bytes : List Byte) (x : Nat) (y : Nat),
      s.run.control = .starting ∧
      s.run.port = .busy a live ∧
      a.write = false ∧
      a.length = 64 ∧
      data.length = 64 ∧
      bytes.length = 192 ∧
      s.run.start = some ⟨.settings bytes, x, y⟩ :=
  ⟨starting (.settings (goodSettings.take 192)) false 64, access .start false 64, true, goodSettings.drop 192, goodSettings.take 192, 0, 0, by decide +kernel⟩

theorem witness_StartEntersRunning :
    ∃ (s : State) (a : Access) (live : Bool) (x : Nat) (y : Nat),
      s.run.control = .starting ∧
      s.run.port = .busy a live ∧
      a.write = true ∧
      s.run.start = some ⟨.block, x, y⟩ :=
  ⟨starting .block true 1, access .start true 1, true, 0, 0, by decide⟩

theorem witness_LooksTakesAndCompletions_1 :
    ∃ (s : State) (a : Access),
      s.run.control = .running ∧
      s.run.port = .busy a true ∧
      a.unit = .executor ∧
      a.write = false ∧
      a.length = 1 ∧
      s.executor.phase = .lookPriority :=
  ⟨executorAt .lookPriority false 1, access .executor false 1, by decide⟩

theorem witness_LooksTakesAndCompletions_2 :
    ∃ (s : State) (a : Access) (p : Bool),
      s.run.control = .running ∧
      s.run.port = .busy a true ∧
      a.unit = .executor ∧
      a.write = false ∧
      a.length = 1 ∧
      s.executor.phase = .lookRoutine p :=
  ⟨executorAt (.lookRoutine true) false 1, access .executor false 1, true, by decide⟩

theorem witness_LooksTakesAndCompletions_3 :
    ∃ (s : State) (a : Access) (data : List Byte) (l : OrderList) (n : Nat),
      s.run.control = .running ∧
      s.run.port = .busy a true ∧
      a.unit = .executor ∧
      a.write = false ∧
      data.length = a.length ∧
      s.executor.phase = .takeRead l n :=
  ⟨executorAt (.takeRead .priority 1) false 32, access .executor false 32, List.replicate 32 1, .priority, 1, by decide⟩

theorem witness_LooksTakesAndCompletions_4 :
    ∃ (s : State) (a : Access) (o : Order) (n : Nat),
      s.run.control = .running ∧
      s.run.port = .busy a true ∧
      a.unit = .executor ∧
      a.write = true ∧
      s.executor.phase = .takeWrite o n ∧
      o.kind = none :=
  ⟨executorAt (.takeWrite (order 11 0 0) 1) true 1, access .executor true 1, order 11 0 0, 1, by decide⟩

theorem witness_LooksTakesAndCompletions_5 :
    ∃ (s : State) (a : Access) (o : Order) (r : OrderResult),
      s.run.control = .running ∧
      s.run.port = .busy a true ∧
      a.unit = .executor ∧
      a.write = true ∧
      s.executor.phase = .writeResult o r :=
  ⟨executorAt (.writeResult (order 3 0 0) ⟨0, []⟩) true 28, access .executor true 28, order 3 0 0, ⟨0, []⟩, by decide⟩

theorem witness_LooksTakesAndCompletions_6 :
    ∃ (s : State) (a : Access) (o : Order),
      s.run.control = .running ∧
      s.run.port = .busy a true ∧
      a.unit = .executor ∧
      a.write = true ∧
      s.executor.phase = .writeDone o :=
  ⟨executorAt (.writeDone (order 3 0 0)) true 1, access .executor true 1, order 3 0 0, by decide⟩

theorem witness_BlockAndUnblockByHookState_1a :
    ∃ (s : State) (o : Order) (L : LineNo),
      s.taking = some o ∧
      o.kind = some .block ∧
      o.lineField = L.val ∧
      (s.line L).sup.hook ≠ .testing :=
  ⟨taking 3 95 0, order 3 95 0, 95, by decide⟩

theorem witness_BlockAndUnblockByHookState_1b :
    ∃ (s : State) (o : Order) (L : LineNo),
      s.taking = some o ∧
      o.kind = some .block ∧
      o.lineField = L.val ∧
      (s.line L).sup.hook ≠ .testing :=
  ⟨(taking 3 0 0).setLine 0 (opened .parked ⟨0, false⟩), order 3 0 0, 0, by decide⟩

theorem witness_BlockAndUnblockByHookState_2 :
    ∃ (s : State) (o : Order) (L : LineNo),
      s.taking = some o ∧
      o.kind = some .unblock ∧
      o.lineField = L.val :=
  ⟨(taking 4 0 0).setLine 0 (opened .blocked ⟨0, false⟩), order 4 0 0, 0, by decide⟩

theorem witness_ReceiverOrdersAtThePool_1 :
    ∃ (s : State) (o : Order) (L : LineNo),
      s.taking = some o ∧
      o.kind = some .attachReceiver ∧
      o.lineField = L.val :=
  ⟨(taking 8 0 0).setLine 0 (closed .active ⟨0, false⟩), order 8 0 0, 0, by decide⟩

theorem witness_ReceiverOrdersAtThePool_2 :
    ∃ (s : State) (o : Order) (L : LineNo),
      s.taking = some o ∧
      o.kind = some .detachReceiver ∧
      o.lineField = L.val :=
  ⟨(taking 9 0 0).setReceiver 3 { state := .attached, line := some 0 }, order 9 0 0, 0, by decide⟩

theorem witness_ResumeReopensADoneCollection :
    ∃ (s : State) (o : Order) (L : LineNo),
      s.taking = some o ∧
      o.kind = some .resumeCollection ∧
      o.lineField = L.val :=
  ⟨(taking 10 0 0).setLine 0 { closed .active ⟨0, false⟩ with coll := { state := .done } }, order 10 0 0, 0, by decide⟩

theorem witness_ProfileReloadActsLineByLine_1a :
    ∃ (s : State) (o : Order),
      s.taking = some o ∧
      o.kind = some .reloadProfiles :=
  ⟨taking 5 0 96, order 5 0 96, by decide⟩

theorem witness_ProfileReloadActsLineByLine_1b :
    ∃ (s : State) (o : Order),
      s.taking = some o ∧
      o.kind = some .reloadProfiles :=
  ⟨taking 5 95 2, order 5 95 2, by decide⟩

theorem witness_ProfileReloadActsLineByLine_2 :
    ∃ (s : State) (a : Access) (data : List Byte) (o : Order) (L : LineNo) (left : Nat) (applied : Nat) (lines : Nat) (fields : Nat),
      s.inFlight = some a ∧
      a.unit = .executor ∧
      a.write = false ∧
      data.length = a.length ∧
      s.executor.phase = .executing o (.profiles L.val left applied lines fields) :=
  ⟨executorAt (.executing (order 5 95 1) (.profiles 95 1 0 0 0)) false 48, access .executor false 48, List.replicate 48 0, order 5 95 1, 95, 1, 0, 0, 0, by decide⟩

theorem witness_PlanAndSettingsReplacedWhenRead_1 :
    ∃ (s : State) (o : Order),
      s.taking = some o ∧
      o.kind = some .reloadPlan :=
  ⟨taking 6 0 0, order 6 0 0, by decide⟩

theorem witness_PlanAndSettingsReplacedWhenRead_2 :
    ∃ (s : State) (a : Access) (data : List Byte) (o : Order) (lengths : List Byte) (early : List Byte),
      s.inFlight = some a ∧
      a.unit = .executor ∧
      a.write = false ∧
      data.length = a.length ∧
      s.executor.phase = .executing o (.plan lengths early) ∧
      lengths.length = 100 ∧
      early.length + data.length = 192 :=
  ⟨executorAt (.executing (order 6 0 0) (.plan (List.replicate 100 1) (List.replicate 128 0))) false 64, access .executor false 64, List.replicate 64 0, order 6 0 0, List.replicate 100 1, List.replicate 128 0, by decide⟩

theorem witness_PlanAndSettingsReplacedWhenRead_3 :
    ∃ (s : State) (o : Order),
      s.taking = some o ∧
      o.kind = some .reloadSettings :=
  ⟨taking 7 0 0, order 7 0 0, by decide⟩

theorem witness_PlanAndSettingsReplacedWhenRead_4 :
    ∃ (s : State) (a : Access) (data : List Byte) (o : Order) (bytes : List Byte),
      s.inFlight = some a ∧
      a.unit = .executor ∧
      a.write = false ∧
      data.length = a.length ∧
      s.executor.phase = .executing o (.settings bytes) ∧
      bytes.length + data.length = 256 :=
  ⟨executorAt (.executing (order 7 0 0) (.settings (List.replicate 192 0))) false 64, access .executor false 64, List.replicate 64 0, order 7 0 0, List.replicate 192 0, by decide +kernel⟩

theorem witness_TestAdmissionAndSelfCheckBegin_1 :
    ∃ (s : State) (o : Order) (L : LineNo),
      s.taking = some o ∧
      o.kind = some .lineTest ∧
      o.lineField = L.val ∧
      (s.line L).sup.hook ≠ .testing :=
  ⟨(taking 1 0 0).setLine 0 (opened .onHook ⟨0, false⟩), order 1 0 0, 0, by decide⟩

theorem witness_TestAdmissionAndSelfCheckBegin_2 :
    ∃ (s : State) (o : Order),
      s.taking = some o ∧
      o.kind = some .selfCheck :=
  ⟨taking 2 0 0, order 2 0 0, by decide⟩

theorem witness_TimedTestStepsExpire_1 :
    ∃ (s : State) (ms : Nat),
      s.run.control.live = true ∧
      s.test.step = .settle ms ∧
      20 ≤ ms + 1 :=
  ⟨testAt (.settle 19) 7, 19, by decide⟩

theorem witness_TimedTestStepsExpire_2 :
    ∃ (s : State) (q : ResQ) (ms : Nat),
      s.run.control.live = true ∧
      s.test.step = .stimulusWait q ms ∧
      20 ≤ ms + 1 :=
  ⟨testAt (.stimulusWait .tg 19) 7, .tg, 19, by decide⟩

theorem witness_TimedTestStepsExpire_3 :
    ∃ (s : State) (ms : Nat),
      s.run.control.live = true ∧
      s.test.step = .pulse ms ∧
      10 ≤ ms + 1 :=
  ⟨testAt (.pulse 9) 7, 9, by decide⟩

theorem witness_TimedTestStepsExpire_4 :
    ∃ (s : State) (ms : Nat),
      s.run.control.live = true ∧
      s.test.step = .discharge ms .resistance ∧
      50 ≤ ms + 1 :=
  ⟨testAt (.discharge 49 .resistance) 7, 49, by decide⟩

theorem witness_TimedTestStepsExpire_5 :
    ∃ (s : State) (ms : Nat),
      s.run.control.live = true ∧
      s.test.step = .discharge ms .capacitance ∧
      50 ≤ ms + 1 :=
  ⟨testAt (.discharge 49 .capacitance) 7, 49, by decide⟩

theorem witness_TimedTestStepsExpire_6 :
    ∃ (s : State) (ms : Nat) (L : LineNo) (o : Order) (w : OrderWork),
      s.run.control.live = true ∧
      s.test.step = .discharge ms .close ∧
      50 ≤ ms + 1 ∧
      s.test.connection = some L ∧
      s.executor.phase = .executing o w :=
  ⟨(testAt (.discharge 49 .close) 7).setExecutor { phase := .executing (order 1 0 0) .engine }, 49, 0, order 1 0 0, .engine, by decide⟩

theorem witness_ReadingsAndLoopWatch_1 :
    ∃ (s : State) (x : ReadTarget) (conversions : List Int),
      s.test.step = .reading x ∧
      conversions.length = 20 ∧
      x.isReference = false :=
  ⟨testAt (.reading .tip) 7, .tip, List.replicate 20 (-5), by decide⟩

theorem witness_ReadingsAndLoopWatch_2 :
    ∃ (s : State) (x : ReadTarget) (conversions : List Int),
      s.test.step = .reading x ∧
      conversions.length = 20 ∧
      x.isReference = true ∧
      s.test.series.taken = 0 :=
  ⟨testAt (.reading .refZero) 0, .refZero, List.replicate 20 8, by decide⟩

theorem witness_ReadingsAndLoopWatch_3a :
    ∃ (s : State) (x : ReadTarget) (dc : Int) (ac : Int) (v : Int) (L : LineNo),
      s.test.step = .watch x dc ac ∧
      s.test.connection = some L ∧
      (50 ≤ v ∨ v ≤ -50) :=
  ⟨testAt (.watch .tip 8 3) 7, .tip, 8, 3, 50, 0, by decide⟩

theorem witness_ReadingsAndLoopWatch_3b :
    ∃ (s : State) (x : ReadTarget) (dc : Int) (ac : Int) (v : Int) (L : LineNo),
      s.test.step = .watch x dc ac ∧
      s.test.connection = some L ∧
      (50 ≤ v ∨ v ≤ -50) :=
  ⟨testAt (.watch .tip 8 3) 7, .tip, 8, 3, -50, 0, by decide⟩

theorem witness_ReadingsAndLoopWatch_4a :
    ∃ (s : State) (x : ReadTarget) (dc : Int) (ac : Int) (v : Int),
      s.test.step = .watch x dc ac ∧
      -50 < v ∧
      v < 50 ∧
      x ≠ .v1 ∧
      (∀ q, x = .drive q → s.test.series.taken = 0 → 450 ≤ dc ∧ dc ≤ 550) ∧
      (s.test.series.taken = 0 ∨ (s.test.series.taken < 7 ∧ max 2 (dc.natAbs / 50) < (dc - s.test.series.last).natAbs)) :=
  ⟨testAt (.watch (.drive .tg) 450 0) 7, .drive .tg, 450, 0, 49, rfl, by decide, by decide, by decide, fun _ _ _ => by decide, by decide⟩

theorem witness_ReadingsAndLoopWatch_4b :
    ∃ (s : State) (x : ReadTarget) (dc : Int) (ac : Int) (v : Int),
      s.test.step = .watch x dc ac ∧
      -50 < v ∧
      v < 50 ∧
      x ≠ .v1 ∧
      (∀ q, x = .drive q → s.test.series.taken = 0 → 450 ≤ dc ∧ dc ≤ 550) ∧
      (s.test.series.taken = 0 ∨ (s.test.series.taken < 7 ∧ max 2 (dc.natAbs / 50) < (dc - s.test.series.last).natAbs)) :=
  ⟨testAt (.watch (.drive .tg) 550 0) 7, .drive .tg, 550, 0, -49, rfl, by decide, by decide, by decide, fun _ _ _ => by decide, by decide⟩

theorem witness_ReadingsAndLoopWatch_5a :
    ∃ (s : State) (q : ResQ) (dc : Int) (ac : Int) (v : Int) (L : LineNo),
      s.test.step = .watch (.drive q) dc ac ∧
      -50 < v ∧
      v < 50 ∧
      s.test.series.taken = 0 ∧
      (dc < 450 ∨ 550 < dc) ∧
      s.test.connection = some L ∧
      s.test.charged = true :=
  ⟨charged 449, .tg, 449, 0, 49, 0, by decide⟩

theorem witness_ReadingsAndLoopWatch_5b :
    ∃ (s : State) (q : ResQ) (dc : Int) (ac : Int) (v : Int) (L : LineNo),
      s.test.step = .watch (.drive q) dc ac ∧
      -50 < v ∧
      v < 50 ∧
      s.test.series.taken = 0 ∧
      (dc < 450 ∨ 550 < dc) ∧
      s.test.connection = some L ∧
      s.test.charged = true :=
  ⟨charged 551, .tg, 551, 0, -49, 0, by decide⟩

theorem witness_RunStartAndRunStopByControlState_2 :
    ∃ (s : State),
      s.run.control = .running :=
  ⟨live, by decide⟩

theorem witness_RunStartAndRunStopByControlState_3a :
    ∃ (s : State),
      s.run.control ≠ .running :=
  ⟨live.setRun { control := .frozen }, by decide⟩

theorem witness_RunStartAndRunStopByControlState_3b :
    ∃ (s : State),
      s.run.control ≠ .running :=
  ⟨live.setRun { control := .starting }, by decide⟩

theorem witness_RunStartAndRunStopByControlState_3c :
    ∃ (s : State),
      s.run.control ≠ .running :=
  ⟨State.reset, by decide⟩

end Sys2Proof.Tests
end

/-! ## Operations that leave the Run Control alone (R172 to R183) -/

namespace Sys2Proof.Machine

section RunFrame

variable (s : State)

/-! ### The lines, the pool and staging -/

@[simp] theorem State.markUntimed_run (L : LineNo) : (s.markUntimed L).run = s.run := rfl
@[simp] theorem State.changeHook_run (L : LineNo) (h : Hook) : (s.changeHook L h).run = s.run :=
  (Within.changeHook s L h).run
@[simp] theorem State.trigger_run : s.trigger.run = s.run := (Within.trigger s).run
@[simp] theorem State.stage_run (l : Option LineNo) (b : RecordBody) (u : Bool) : (s.stage l b u).run = s.run :=
  (Within.stage s l b u).run
@[simp] theorem State.append_run (l : Option LineNo) (b : RecordBody) (u : Bool) : (s.append l b u).run = s.run := by
  unfold State.append
  dsimp only
  split <;> simp
@[simp] theorem State.request_run (L : LineNo) : (s.request L).run = s.run := (Within.request s L).run
@[simp] theorem State.release_run (L : LineNo) : (s.release L).run = s.run := (Within.release s L).run
@[simp] theorem State.handOver_run (r : RxNo) : (s.handOver r).run = s.run := (Within.handOver s r).run
@[simp] theorem State.takeSample_run (L : LineNo) (x : Sample) : (s.takeSample L x).1.run = s.run :=
  ((Near.refl L s).takeSample x).within.run
@[simp] theorem State.takeSymbol_run (L : LineNo) (d : Digit) : (s.takeSymbol L d).run = s.run :=
  ((Near.refl L s).takeSymbol d).within.run
@[simp] theorem State.setBaseline_run (L : LineNo) (b : Nat) (x : Bool) : (s.setBaseline L b x).run = s.run :=
  ((Near.refl L s).setBaseline b x).within.run
@[simp] theorem State.askReseed_run (L : LineNo) : (s.askReseed L).run = s.run := rfl
@[simp] theorem State.openCollection_run (L : LineNo) (b : Bool) : (s.openCollection L b).run = s.run := rfl
@[simp] theorem State.requestIfTone_run (L : LineNo) : (s.requestIfTone L).run = s.run :=
  ((Near.refl L s).requestIfTone).within.run
@[simp] theorem State.blockLine_run (L : LineNo) : (s.blockLine L).run = s.run :=
  ((Near.refl L s).blockLine).within.run
@[simp] theorem State.unblockLine_run (L : LineNo) : (s.unblockLine L).run = s.run :=
  ((Near.refl L s).unblockLine).within.run
@[simp] theorem State.enableLine_run (L : LineNo) : (s.enableLine L).run = s.run :=
  ((Near.refl L s).enableLine).within.run
@[simp] theorem State.disableLine_run (L : LineNo) : (s.disableLine L).run = s.run :=
  ((Near.refl L s).disableLine).within.run
@[simp] theorem State.connectLine_run (L : LineNo) : (s.connectLine L).run = s.run :=
  ((Near.refl L s).connectLine).within.run
@[simp] theorem State.returnLine_run (L : LineNo) : (s.returnLine L).run = s.run :=
  ((Near.refl L s).returnLine).within.run
@[simp] theorem State.testRaise_run (L : LineNo) (f : Finding) (x : Int) : (s.testRaise L f x).run = s.run :=
  ((Near.refl L s).testRaise f x).within.run

/-! ### The Journal Unit -/

@[simp] theorem State.beginBatch_run (k : WorkKind) : (s.beginBatch k).run = s.run := rfl
@[simp] theorem State.beginRecheck_run : s.beginRecheck.run = s.run := rfl
@[simp] theorem State.workAt_run (w : Work) (x : WorkStep) : (s.workAt w x).run = s.run := rfl
@[simp] theorem State.stageGap_run : s.stageGap.run = s.run := by
  unfold State.stageGap
  dsimp only
  split <;> simp
@[simp] theorem State.afterRecords_run (w : Work) : (s.afterRecords w).run = s.run := by
  unfold State.afterRecords
  repeat' split
  all_goals simp
@[simp] theorem State.recordWritten_run (w : Work) : (s.recordWritten w).run = s.run := by
  unfold State.recordWritten
  dsimp only
  split <;> simp
@[simp] theorem State.owedWork_run : s.owedWork.run = s.run := by
  unfold State.owedWork
  repeat' split
  all_goals simp
@[simp] theorem State.restartAbsolute_run : s.restartAbsolute.run = s.run := by
  unfold State.restartAbsolute
  split <;> simp
@[simp] theorem State.recovered_run : s.recovered.run = s.run := by
  unfold State.recovered
  split <;> simp
@[simp] theorem State.stillFull_run (w : Work) : (s.stillFull w).run = s.run := rfl
@[simp] theorem State.journalPoll_run : s.journalPoll.run = s.run := by
  unfold State.journalPoll
  repeat' split
  all_goals simp

/-! ### The Test Engine -/

@[simp] theorem State.atPhase_run (p : ExecPhase) : (s.atPhase p).run = s.run := rfl
@[simp] theorem State.completeOrder_run (r : OrderResult) : (s.completeOrder r).run = s.run := by
  unfold State.completeOrder
  split <;> simp
@[simp] theorem State.finishTest_run : s.finishTest.run = s.run := by
  unfold State.finishTest
  split <;> simp
@[simp] theorem State.closeTest_run : s.closeTest.run = s.run := by
  unfold State.closeTest
  dsimp only
  split <;> simp
@[simp] theorem State.afterResistance_run : s.afterResistance.run = s.run := by
  unfold State.afterResistance
  split <;> simp
@[simp] theorem State.afterVoltage_run : s.afterVoltage.run = s.run := by
  unfold State.afterVoltage
  split <;> simp
@[simp] theorem State.beginTests_run : s.beginTests.run = s.run := by
  unfold State.beginTests
  dsimp only
  split <;> simp
@[simp] theorem State.finding_run (f : Finding) (x : Int) : (s.finding f x).run = s.run := by
  unfold State.finding
  dsimp only
  split <;> simp
@[simp] theorem State.judgeVoltage_run : s.judgeVoltage.run = s.run := by
  unfold State.judgeVoltage
  dsimp only
  split <;> simp
@[simp] theorem State.nextResistance_run (q : ResQ) : (s.nextResistance q).run = s.run := by
  cases q <;> simp [State.nextResistance]
@[simp] theorem State.storeResistance_run (q : ResQ) (x : Quantity) : (s.storeResistance q x).run = s.run := by
  simp [State.storeResistance]
@[simp] theorem State.collision_run (q : ResQ) (x : Int) : (s.collision q x).run = s.run := by
  simp [State.collision]
@[simp] theorem State.finishCheck_run (v : Verified) : (s.finishCheck v).run = s.run := by
  simp [State.finishCheck]
@[simp] theorem State.seriesEnded_run (x : ReadTarget) (d a : Int) (u : Bool) :
    (s.seriesEnded x d a u).run = s.run := by
  unfold State.seriesEnded
  dsimp only
  repeat' split
  all_goals simp
@[simp] theorem State.useReading_run (x : ReadTarget) (d a : Int) : (s.useReading x d a).run = s.run := by
  unfold State.useReading
  repeat' split
  all_goals simp
@[simp] theorem State.readingDone_run (xs : List Int) : (s.readingDone xs).run = s.run := by
  unfold State.readingDone
  repeat' split
  all_goals simp
@[simp] theorem State.cutTest_run : s.cutTest.run = s.run := by simp [State.cutTest]
@[simp] theorem State.loopWatch_run (v : Int) : (s.loopWatch v).run = s.run := by
  unfold State.loopWatch
  repeat' split
  all_goals simp
@[simp] theorem State.dischargeEnd_run (n : AfterDischarge) : (s.dischargeEnd n).run = s.run := by
  cases n <;> simp [State.dischargeEnd]
@[simp] theorem State.tickTest_run : s.tickTest.1.run = s.run := by
  unfold State.tickTest
  repeat' split
  all_goals simp
@[simp] theorem State.stopTest_run : s.stopTest.run = s.run := by
  unfold State.stopTest
  dsimp only
  split <;> simp

/-! ### The Order Executor -/

@[simp] theorem State.becomeIdle_run : s.becomeIdle.run = s.run := by
  unfold State.becomeIdle
  split <;> simp
@[simp] theorem State.executorPoll_run : s.executorPoll.run = s.run := by
  unfold State.executorPoll
  repeat' split
  all_goals simp
@[simp] theorem State.owedLook_run : s.owedLook.run = s.run := by
  unfold State.owedLook
  split <;> simp
@[simp] theorem State.returned_run : s.returned.run = s.run := by simp [State.returned]
@[simp] theorem State.lookDone_run (a b : Bool) : (s.lookDone a b).run = s.run := by
  unfold State.lookDone
  dsimp only
  split <;> simp
@[simp] theorem State.orderBlock_run (L : LineNo) : (s.orderBlock L).run = s.run := by simp [State.orderBlock]
@[simp] theorem State.orderUnblock_run (L : LineNo) : (s.orderUnblock L).run = s.run := by simp [State.orderUnblock]
@[simp] theorem State.orderAttach_run (L : LineNo) : (s.orderAttach L).run = s.run := by
  unfold State.orderAttach
  split <;> simp
@[simp] theorem State.orderDetach_run (L : LineNo) : (s.orderDetach L).run = s.run := by simp [State.orderDetach]
@[simp] theorem State.orderResume_run (L : LineNo) : (s.orderResume L).run = s.run := by
  unfold State.orderResume
  dsimp only
  split <;> simp
@[simp] theorem State.admitTest_run (L : LineNo) (m : Nat) : (s.admitTest L m).run = s.run := by
  unfold State.admitTest
  repeat' split
  all_goals simp
@[simp] theorem State.beginCheck_run : s.beginCheck.run = s.run := rfl
@[simp] theorem State.failCheck_run (c : Nat) : (s.failCheck c).run = s.run := by simp [State.failCheck]
theorem State.onLine_run (o : Order) (act : State → LineNo → State) (h : ∀ L, (act s L).run = s.run) :
    (s.onLine o act).run = s.run := by
  unfold State.onLine
  split <;> simp [h]
@[simp] theorem State.carryOut_run (o : Order) : (s.carryOut o).run = s.run := by
  unfold State.carryOut
  dsimp only
  split
  · simp
  · exact State.onLine_run _ o _ (State.orderBlock_run _)
  · exact State.onLine_run _ o _ (State.orderUnblock_run _)
  · exact State.onLine_run _ o _ (State.orderAttach_run _)
  · exact State.onLine_run _ o _ (State.orderDetach_run _)
  · exact State.onLine_run _ o _ (State.orderResume_run _)
  · exact State.onLine_run _ o _ (fun L => State.admitTest_run _ L o.count)
  · simp
  · split <;> simp
  · simp
  · simp
@[simp] theorem State.markClamped_run (L : LineNo) (b : Bool) : (s.markClamped L b).run = s.run := by
  unfold State.markClamped
  dsimp only
  split <;> simp
@[simp] theorem State.loseTone_run (L : LineNo) (a b : Profile) : (s.loseTone L a b).run = s.run := by
  unfold State.loseTone
  split <;> simp
@[simp] theorem State.refreshLine_run (L : LineNo) : (s.refreshLine L).run = s.run := by simp [State.refreshLine]
@[simp] theorem State.applyProfile_run (L : LineNo) (b : List Byte) : (s.applyProfile L b).run = s.run := by
  unfold State.applyProfile
  generalize parseProfile b = new
  dsimp only
  repeat' split
  all_goals simp
@[simp] theorem State.profileRead_run (o : Order) (a b c d e : Nat) (x : List Byte) :
    (s.profileRead o a b c d e x).run = s.run := by
  unfold State.profileRead
  dsimp only
  repeat' split
  all_goals simp
@[simp] theorem State.planPart_run (o : Order) (a b x : List Byte) : (s.planPart o a b x).run = s.run := by
  unfold State.planPart
  dsimp only
  split <;> simp
@[simp] theorem State.recount_run (n : Nat) (r : RxNo) : (State.recount n s r).run = s.run := by
  unfold State.recount
  dsimp only
  repeat' split
  all_goals simp

/-- A fold of steps that each leave the Run Control alone does so too. -/
theorem State.foldl_run {α : Type} (f : State → α → State) (h : ∀ u a, (f u a).run = u.run) :
    ∀ (xs : List α) (u : State), (xs.foldl f u).run = u.run
  | [], _ => rfl
  | x :: xs, u => (State.foldl_run f h xs (f u x)).trans (h u x)

@[simp] theorem State.changeEnabled_run (n : Nat) : (s.changeEnabled n).run = s.run :=
  State.foldl_run _ (fun u r => u.recount_run n r) _ _
@[simp] theorem State.applySettings_run (b : List Byte) : (s.applySettings b).run = s.run := by
  unfold State.applySettings
  dsimp only
  repeat' split
  all_goals simp
@[simp] theorem State.settingsPart_run (o : Order) (b x : List Byte) : (s.settingsPart o b x).run = s.run := by
  unfold State.settingsPart
  dsimp only
  split <;> simp
@[simp] theorem State.orderTaken_run (o : Order) (n : Nat) : (s.orderTaken o n).run = s.run := by
  unfold State.orderTaken
  dsimp only
  split <;> simp
@[simp] theorem State.takeReadDone_run (l : OrderList) (n : Nat) (d : List Byte) :
    (s.takeReadDone l n d).run = s.run := by
  unfold State.takeReadDone
  split <;> simp
@[simp] theorem State.workRead_run (o : Order) (d : List Byte) (w : OrderWork) :
    (s.workRead o d w).run = s.run := by
  cases w <;> simp [State.workRead]

/-! ### The sense links -/

@[simp] theorem State.deliver_run (g : LinkNo) (fr : Frame) (e : Fin 16) : (s.deliver g fr e).run = s.run :=
  State.foldl_run _ (fun u p => u.takeSample_run (lineAt g p) (fr.sample p e)) _ _
@[simp] theorem State.acceptFrame_run (g : LinkNo) (fr : Frame) : (s.acceptFrame g fr).run = s.run := by
  unfold State.acceptFrame
  dsimp only
  split <;> simp
@[simp] theorem State.setFirstSample_run (g : LinkNo) (b : Bool) : (s.setFirstSample g b).run = s.run := rfl
@[simp] theorem State.reseedAll_run (g : LinkNo) : (positions.foldl (State.reseedAt g) s).run = s.run :=
  State.foldl_run (State.reseedAt g) (fun _ _ => rfl) _ _
@[simp] theorem State.restoreLink_run (g : LinkNo) (fr : Frame) : (s.restoreLink g fr).run = s.run := by
  unfold State.restoreLink
  dsimp only
  split <;> simp
@[simp] theorem State.runFrame_run (g : LinkNo) (fr : Frame) : (s.runFrame g fr).1.run = s.run := by
  unfold State.runFrame
  dsimp only
  split <;> simp
@[simp] theorem State.senseFrame_run (g : LinkNo) (b : List Byte) : (s.senseFrame g b).1.run = s.run := by
  unfold State.senseFrame
  repeat' split
  all_goals simp
@[simp] theorem State.closeLink_run (g : LinkNo) : (s.closeLink g).run = s.run := by
  unfold State.closeLink
  dsimp only
  split <;> simp
@[simp] theorem State.closeLinks_run : s.closeLinks.run = s.run :=
  State.foldl_run _ State.closeLink_run _ _

/-! ### The receivers and the highway -/

@[simp] theorem State.countSymbol_run (r : RxNo) (L : LineNo) : (s.countSymbol r L).run = s.run := by
  unfold State.countSymbol
  split <;> simp
@[simp] theorem State.acceptSymbol_run (r : RxNo) (L : LineNo) (x : Symbol) : (s.acceptSymbol r L x).run = s.run := by
  unfold State.acceptSymbol
  split <;> simp
@[simp] theorem State.endBlock_run (r : RxNo) (L : LineNo) (x : Receiver) : (s.endBlock r L x).run = s.run := by
  unfold State.endBlock
  dsimp only
  repeat' split
  all_goals simp
@[simp] theorem State.receiverFrame_run (slots : List (BitVec 16)) (a : State × List RxNo) (r : RxNo) :
    (State.receiverFrame slots a r).1.run = a.1.run := by
  unfold State.receiverFrame
  dsimp only
  repeat' split
  all_goals simp
@[simp] theorem State.receiversTake_run (slots : List (BitVec 16)) : (s.receiversTake slots).1.run = s.run := by
  have key : ∀ (rs : List RxNo) (a : State × List RxNo),
      (rs.foldl (State.receiverFrame slots) a).1.run = a.1.run := by
    intro rs
    induction rs with
    | nil => exact fun _ => rfl
    | cons r rs ih => exact fun a => (ih _).trans (State.receiverFrame_run slots a r)
  unfold State.receiversTake
  exact key _ _
@[simp] theorem State.lostFrame_run : s.lostFrame.1.run = s.run := by
  unfold State.lostFrame
  dsimp only
  repeat' split
  all_goals simp
@[simp] theorem State.highwayFrame_run (slots : List (BitVec 16)) : (s.highwayFrame slots).1.run = s.run := by
  unfold State.highwayFrame
  dsimp only
  repeat' split
  all_goals simp
@[simp] theorem State.mapReceivers_run (f : Receiver → Receiver) : (s.mapReceivers f).run = s.run := rfl
@[simp] theorem State.highwayInstant_run : s.highwayInstant.1.run = s.run := by
  unfold State.highwayInstant
  dsimp only
  repeat' split
  all_goals simp

/-! ### The strobe instant -/

@[simp] theorem State.advanceTime_run : s.advanceTime.run = s.run := rfl
@[simp] theorem State.tickDelay_run : s.tickDelay.run = s.run := by
  unfold State.tickDelay
  dsimp only
  split <;> simp
@[simp] theorem State.tickAbsolute_run : s.tickAbsolute.run = s.run := by
  unfold State.tickAbsolute
  dsimp only
  split <;> simp
@[simp] theorem State.tickPoll_run : s.tickPoll.run = s.run := by
  unfold State.tickPoll
  repeat' split
  all_goals simp
@[simp] theorem State.tickLive_run : s.tickLive.1.run = s.run := by
  unfold State.tickLive
  dsimp only
  split <;> simp
@[simp] theorem State.strobeInstant_run : s.strobeInstant.1.run = s.run := by simp [State.strobeInstant]

end RunFrame

end Sys2Proof.Machine

/-! ## Causes (R177): a mark that is 1 stays 1 -/

namespace Sys2Proof.Machine

/-- Every cause mark that is 1 in `s` is 1 in `t`. -/
def CausesGrow (s t : State) : Prop := ∀ i, s.run.causes.getLsbD i = true → t.run.causes.getLsbD i = true

section CausesGrow

variable {s t u : State}

theorem CausesGrow.refl (s : State) : CausesGrow s s := fun _ h => h

/-- A step that leaves the causes as they are. -/
theorem CausesGrow.of_causes (h : CausesGrow s t) (e : u.run.causes = t.run.causes) : CausesGrow s u := by
  unfold CausesGrow
  rwa [e]

theorem CausesGrow.of_run (h : CausesGrow s t) (e : u.run = t.run) : CausesGrow s u :=
  h.of_causes (by rw [e])

theorem CausesGrow.raiseCause (h : CausesGrow s t) (c : Cause) : CausesGrow s (t.raiseCause c) := by
  intro i hi
  simp [State.raiseCause, h i hi]

theorem CausesGrow.enterFrozen (h : CausesGrow s t) : CausesGrow s t.enterFrozen :=
  (h.of_causes (u := t.setRun { t.run with control := .frozen }) rfl).raiseCause _

theorem CausesGrow.enterStopped (h : CausesGrow s t) : CausesGrow s t.enterStopped := h.of_causes rfl

/-! ### The port -/

theorem State.journalGranted_run (s : State) : s.journalGranted.run = s.run := by
  unfold State.journalGranted
  repeat' split
  all_goals rfl

/-- A grant changes the port and the last grant, no cause. -/
theorem State.grantShared_causes (s : State) : s.grantShared.run.causes = s.run.causes := by
  have hj : ∀ q, (s.grantJournal q).run.causes = s.run.causes := fun q => by
    simp [State.grantJournal, State.occupy, State.journalGranted_run]
  have he : ∀ q, (s.grantExecutor q).run.causes = s.run.causes := fun _ => rfl
  unfold State.grantShared
  repeat' split
  all_goals simp only [hj, he]

theorem State.grantStart_causes (s : State) : s.grantStart.run.causes = s.run.causes := by
  unfold State.grantStart
  split <;> rfl

theorem State.beginFinal_run (s : State) : s.beginFinal.run = s.run := by
  unfold State.beginFinal
  split <;> rfl

theorem CausesGrow.settle (h : CausesGrow s t) : CausesGrow s t.settle := by
  unfold State.settle
  split
  · exact h
  · split
    · exact h.of_causes t.grantStart_causes
    · split
      · exact h.enterFrozen
      · exact h.of_causes t.grantShared_causes
    · exact h.of_causes (by rw [State.grantShared_causes, State.beginFinal_run])
    · exact h

/-! ### The Journal Unit and the Order Executor at a completed access -/

theorem CausesGrow.raiseIfNew (h : CausesGrow s t) (o : Bool) (c : Cause) : CausesGrow s (t.raiseIfNew o c) := by
  unfold State.raiseIfNew
  split
  · exact h
  · exact h.raiseCause c

theorem CausesGrow.foundFull (h : CausesGrow s t) (w : Work) : CausesGrow s (t.foundFull w) :=
  ((h.of_run (State.setJournal_run t { t.journal with full := true })).raiseIfNew t.journal.full .full).of_run
    (State.afterRecords_run _ w)

theorem CausesGrow.roomChecked (h : CausesGrow s t) (w : Work) (d : List Byte) : CausesGrow s (t.roomChecked w d) := by
  unfold State.roomChecked
  split
  · exact h.of_run rfl
  · exact ((h.of_run (State.setJournal_run t { t.journal with roomLow := true })).raiseIfNew _ .roomLow).of_run
      (State.workAt_run _ w _)

theorem CausesGrow.endWork (h : CausesGrow s t) (w : Work) : CausesGrow s (t.endWork w) := by
  have h1 : CausesGrow s (if w.wrote = 0 then t else t.raiseCause .batch) := by
    split
    · exact h
    · exact h.raiseCause .batch
  unfold State.endWork
  revert h1
  generalize (if w.wrote = 0 then t else t.raiseCause .batch) = u
  intro h1
  dsimp only
  split
  · exact CausesGrow.enterStopped (h1.of_run rfl)
  · split
    · exact h1.of_run (by simp)
    · exact h1.of_run rfl
  · split
    · exact h1.of_run (by simp)
    · exact h1.of_run (by simp)

theorem CausesGrow.ownerRead (h : CausesGrow s t) (w : Work) (d : List Byte) : CausesGrow s (t.ownerRead w d) := by
  unfold State.ownerRead
  repeat' split
  · exact h.of_run t.recovered_run
  · exact h.of_run (t.stillFull_run w)
  · exact h.of_run (t.workAt_run w .writeBody)
  · exact h.foundFull w

theorem CausesGrow.journalDone (h : CausesGrow s t) (d : List Byte) : CausesGrow s (t.journalDone d) := by
  unfold State.journalDone
  split
  · exact h
  · rename_i w _
    split
    · exact h.ownerRead w d
    · exact h.of_run rfl
    · exact h.of_run (t.recordWritten_run w)
    · exact h.roomChecked w d
    · exact h
    · exact h.of_run rfl
    · exact h.endWork w

theorem CausesGrow.executorDone (h : CausesGrow s t) (d : List Byte) : CausesGrow s (t.executorDone d) := by
  unfold State.executorDone
  split
  case h_8 => exact (h.raiseCause .order).of_run (State.becomeIdle_run _)
  all_goals exact h.of_run (by simp)

theorem CausesGrow.unitDone (h : CausesGrow s t) (u : MemUnit) (d : List Byte) : CausesGrow s (t.unitDone u d) := by
  cases u
  case journal => exact h.journalDone d
  case executor => exact h.executorDone d
  case start => exact h

theorem CausesGrow.retryDone (h : CausesGrow s t) (u : MemUnit) (d : List Byte) : CausesGrow s (t.retryDone u d) := by
  cases hf : t.run.freezeAsked
  · have h1 : CausesGrow s (t.setRun { t.run with failed := none, control := .running }) := h.of_causes rfl
    rw [State.retryDone_of_not_freeze hf]
    exact (h1.unitDone u d).of_run (State.returned_run _)
  · have h1 : CausesGrow s (t.setRun { t.run with failed := none }) := h.of_causes rfl
    rw [State.retryDone_of_freeze hf]
    exact h1.enterFrozen.unitDone u d

/-! ### The start sequence -/

theorem CausesGrow.startAt (h : CausesGrow s t) (q : StartSeq) : CausesGrow s (t.startAt q) := h.of_causes rfl

theorem CausesGrow.failStart (h : CausesGrow s t) (r : StartResult) : CausesGrow s (t.failStart r) :=
  (h.of_causes (u := t.setRun { t.run with startResult := r }) rfl).enterStopped

theorem CausesGrow.startEnds (h : CausesGrow s t) (q : StartSeq) : CausesGrow s (t.startEnds q) := by
  have h1 : ∀ l b, CausesGrow s (t.stage l b).enterRunning := fun l b =>
    (h.of_run (State.stage_run t l b false)).of_causes rfl
  unfold State.startEnds
  dsimp only
  split
  · exact h1 _ _
  · exact (h1 _ _).of_run (State.owedWork_run _)

theorem CausesGrow.startDone (h : CausesGrow s t) (d : List Byte) : CausesGrow s (t.startDone d) := by
  unfold State.startDone
  split
  · exact h
  · rename_i q _
    split
    · unfold State.startSettings
      dsimp only
      repeat' split
      · exact h.startAt _
      · exact CausesGrow.startAt (h.of_causes rfl) _
      · exact h.failStart _
    · unfold State.startPlan
      dsimp only
      split
      · exact CausesGrow.startAt (h.of_causes rfl) _
      · exact h.startAt _
    · unfold State.startProfile
      dsimp only
      split
      · exact CausesGrow.startAt (h.of_causes rfl) _
      · exact CausesGrow.startAt (h.of_causes rfl) _
    · unfold State.startEntryDone
      split
      · exact h.startAt _
      · exact h.startAt _
    · exact h.startEnds q

/-! ### The outcomes of an access -/

theorem CausesGrow.accessDone (h : CausesGrow s t) (d : List Byte) : CausesGrow s (t.accessDone d) := by
  have h1 : CausesGrow s t.freePort := h.of_causes rfl
  unfold State.accessDone
  split
  · exact h
  · rename_i a live _
    split
    · dsimp only
      split
      · exact (h1.startDone d).settle
      · exact (h1.unitDone a.unit d).settle
      · split
        · exact (h1.unitDone a.unit d).settle
        · exact h1.settle
      · exact (h1.retryDone a.unit d).settle
      · exact h1
      · exact h1
    · exact h

theorem CausesGrow.accessFailed (h : CausesGrow s t) : CausesGrow s t.accessFailed := by
  have h1 : CausesGrow s t.freePort := h.of_causes rfl
  unfold State.accessFailed
  split
  · exact h
  · rename_i a _ _
    split
    · exact (h.raiseCause _).failStart _
    · exact CausesGrow.raiseCause (h.of_causes rfl) _
    · exact h1.raiseCause _
    · exact (h.raiseCause _).enterStopped
    · exact h1
    · exact h1

/-! ### The writes to CONTROL -/

theorem State.abandonRead_causes (s : State) : s.abandonRead.run.causes = s.run.causes := by
  unfold State.abandonRead
  split <;> rfl

theorem CausesGrow.stopExecutor (h : CausesGrow s t) : CausesGrow s t.stopExecutor := by
  refine h.of_causes ?_
  unfold State.stopExecutor
  repeat' split
  all_goals simp [State.abandonRead_causes]

theorem CausesGrow.runStart (h : CausesGrow s t) : CausesGrow s t.runStart := by
  unfold State.runStart
  split
  · exact CausesGrow.settle (h.of_causes rfl)
  · exact h

theorem CausesGrow.runStop (h : CausesGrow s t) : CausesGrow s t.runStop := by
  unfold State.runStop
  split
  · have h1 : CausesGrow s (t.setExecutor { t.executor with poll := {} }) := h.of_run rfl
    exact CausesGrow.settle (h1.stopExecutor.of_causes rfl)
  · exact h.enterStopped
  · exact h.enterStopped
  · exact h.failStart _
  · exact h
  · exact h

theorem CausesGrow.freeze (h : CausesGrow s t) (b : Bool) : CausesGrow s (t.freeze b) := by
  have h1 : CausesGrow s (t.setRun { t.run with freezeAsked := b }) := h.of_causes rfl
  unfold State.freeze
  dsimp only
  split
  · have h2 : CausesGrow s (t.setRun { t.run with freezeAsked := b, control := .running }) := h.of_causes rfl
    exact (h2.of_run (State.returned_run _)).settle
  · exact h1.settle

theorem CausesGrow.resume (h : CausesGrow s t) : CausesGrow s t.resume := by
  unfold State.resume
  split
  · exact h.of_causes rfl
  · exact h

end CausesGrow

end Sys2Proof.Machine

/-! ## What each command leaves to its owner (R1, R2, R175 to R177, R183) -/

namespace Sys2Proof.Machine

/-- `t` differs from `s` in nothing that a command of its own owns, but that more causes may be marked. -/
structure Leaves (s t : State) : Prop where
  keeps : Keeps s t
  grow : CausesGrow s t

section Leaves

variable {s t u : State}

theorem Leaves.refl (s : State) : Leaves s s := ⟨.refl s, .refl s⟩

/-- A step that leaves the Run Control alone. -/
theorem Leaves.of_run (k : Keeps s t) (e : t.run = s.run) : Leaves s t := ⟨k, (CausesGrow.refl s).of_run e⟩

theorem Leaves.settle (h : Leaves s t) : Leaves s t.settle := ⟨h.keeps.settle, h.grow.settle⟩

/-- A row that acts only if its event comes about. -/
theorem Leaves.ite (c : Prop) [Decidable c] (h : Leaves s t) : Leaves s (if c then t else s) := by
  split
  · exact h
  · exact .refl s

theorem Leaves.accessDone (s : State) (d : List Byte) : Leaves s (s.accessDone d) :=
  ⟨(Keeps.refl s).accessDone d, (CausesGrow.refl s).accessDone d⟩

theorem Leaves.accessFailed (s : State) : Leaves s s.accessFailed :=
  ⟨(Keeps.refl s).accessFailed, (CausesGrow.refl s).accessFailed⟩

theorem Leaves.sampleRow {L : LineNo} {x : Sample} {due : SampleReport → Bool}
    (h : s.sampleRow L x due = .next t) : Leaves s t := by
  cases h
  exact .ite _ (Leaves.of_run ((Keeps.refl s).takeSample L x) (by simp)).settle

theorem Leaves.orderRow {due : Bool} {d : List Byte} (h : s.orderRow due d = .next t) : Leaves s t := by
  cases h
  exact .ite _ (.accessDone s d)

theorem Leaves.senseFrame (s : State) (g : LinkNo) (b : List Byte) : Leaves s (s.senseFrame g b).1.settle :=
  (Leaves.of_run ((Keeps.refl s).senseFrame g b) (by simp)).settle

theorem Leaves.highwayFrame (s : State) (x : List (BitVec 16)) : Leaves s (s.highwayFrame x).1.settle :=
  (Leaves.of_run ((Keeps.refl s).highwayFrame x) (by simp)).settle

theorem Leaves.highwayInstant (s : State) : Leaves s s.highwayInstant.1.settle :=
  (Leaves.of_run (Keeps.refl s).highwayInstant (by simp)).settle

theorem Leaves.runStop (s : State) : Leaves s s.runStop := by
  refine ⟨?_, (CausesGrow.refl s).runStop⟩
  unfold State.runStop
  split
  · have k := ((Keeps.refl s).setExecutor { s.executor with poll := {} }).stopExecutor
    exact Keeps.settle (k.trans ⟨rfl, rfl, rfl, rfl, rfl⟩)
  · exact (Keeps.refl s).enterStopped
  · exact (Keeps.refl s).enterStopped
  · exact (Keeps.refl s).failStart _
  · exact .refl s
  · exact .refl s

theorem Leaves.freeze (s : State) (b : Bool) : Leaves s (s.freeze b) := by
  refine ⟨?_, (CausesGrow.refl s).freeze b⟩
  unfold State.freeze
  dsimp only
  split
  · have k : Keeps s (s.setRun { s.run with freezeAsked := b, control := .running }) := ⟨rfl, rfl, rfl, rfl, rfl⟩
    exact k.returned.settle
  · exact Keeps.settle ⟨rfl, rfl, rfl, rfl, rfl⟩

end Leaves

/-- A strobe instant changes cabinet time and the strobe output, and nothing else that has a command of its own. -/
structure StrobeLeaves (s t : State) : Prop where
  pending : t.pending = s.pending
  areaBase : t.run.areaBase = s.run.areaBase
  enables : t.run.enables = s.run.enables
  grow : CausesGrow s t

/-- Everything that a strobe instant makes after cabinet time. -/
theorem Keeps.strobeInstant (s : State) : Keeps s.advanceTime s.strobeInstant.1.settle :=
  (Keeps.refl s.advanceTime).tickDelay.tickAbsolute.tickLive.settle

theorem StrobeLeaves.strobeInstant (s : State) : StrobeLeaves s s.strobeInstant.1.settle :=
  have k := Keeps.strobeInstant s
  ⟨k.pending, k.areaBase, k.enables, ((CausesGrow.refl s).of_run s.strobeInstant_run).settle⟩

theorem StrobeLeaves.strobeRow {s t : State} {due : StrobeReport → Bool} (h : s.strobeRow due = .next t) :
    StrobeLeaves s t := by
  cases h
  split
  · exact .strobeInstant s
  · exact ⟨rfl, rfl, rfl, .refl s⟩

/-! ### The rows by the shared operation that they are made of -/

/-- A row that names an event of a strobe instant is the instant, if it brings the event about (log entry 1). -/
theorem exec_of_isStrobe {c : Instr} (hc : c.isStrobe = true) (s : State) :
    c = .strobeInstant ∨ ∃ due, exec c s = s.strobeRow due := by
  cases c
  case strobeInstant => exact .inl rfl
  case linkLost g => exact .inr ⟨fun r => r.lost.contains g, rfl⟩
  case batchDelayExpiry => exact .inr ⟨fun r => r.delay, rfl⟩
  case batchAbsoluteExpiry => exact .inr ⟨fun r => r.absolute, rfl⟩
  case orderPoll => exact .inr ⟨fun r => r.poll, rfl⟩
  case testSettleEnd => exact .inr ⟨fun r => decide (r.test = .settle), rfl⟩
  case stimulusWaitEnd => exact .inr ⟨fun r => decide (r.test = .stimulusWait), rfl⟩
  case pulseEnd => exact .inr ⟨fun r => decide (r.test = .pulse), rfl⟩
  case dischargeEnd => exact .inr ⟨fun r => decide (r.test = .discharge), rfl⟩
  all_goals cases hc

/-- A row that names an event of one line's sample is the sample, if it brings the event about (log entries 1, 22). -/
theorem exec_of_sampleOf {c : Instr} {L : LineNo} {x : Sample} (hc : c.sampleOf = some (L, x)) (s : State) :
    ∃ due, exec c s = s.sampleRow L x due := by
  cases c
  case seizeConfirm => cases hc; exact ⟨fun r => r.sup.seizeConfirm, rfl⟩
  case release => cases hc; exact ⟨fun r => r.sup.release, rfl⟩
  case parkedRelease => cases hc; exact ⟨fun r => r.sup.parkedRelease, rfl⟩
  case digitEnd => cases hc; exact ⟨fun r => r.dec.ended, rfl⟩
  case firstDigitTimeout => cases hc; exact ⟨fun r => r.coll.firstDigitTimeout, rfl⟩
  case interdigitTimeout => cases hc; exact ⟨fun r => r.coll.interdigitTimeout, rfl⟩
  case toneWindowExpiry => cases hc; exact ⟨fun r => r.pool.expired, rfl⟩
  case queueWaitNotice => cases hc; exact ⟨fun r => r.pool.noticed, rfl⟩
  case conditionConfirm _ d _ =>
    cases hc; exact ⟨fun r => decide (d ≠ .powerCross) && decide (r.fault.get d = .raise), rfl⟩
  case conditionClear _ d _ =>
    cases hc; exact ⟨fun r => decide (d ≠ .powerCross) && decide (r.fault.get d = .clear), rfl⟩
  case powerCrossRaise => cases hc; exact ⟨fun r => decide (r.fault.cross = .raise), rfl⟩
  case powerCrossClear => cases hc; exact ⟨fun r => decide (r.fault.cross = .clear), rfl⟩
  all_goals cases hc

theorem StrobeLeaves.exec {c : Instr} {s t : State} (hc : c.isStrobe = true) (h : exec c s = .next t) :
    StrobeLeaves s t := by
  rcases exec_of_isStrobe hc s with rfl | ⟨due, e⟩
  · cases h
    exact .strobeInstant s
  · exact .strobeRow (e ▸ h)

theorem Leaves.execSample {c : Instr} {L : LineNo} {x : Sample} {s t : State} (hc : c.sampleOf = some (L, x))
    (h : exec c s = .next t) : Leaves s t := by
  obtain ⟨due, e⟩ := exec_of_sampleOf hc s
  exact .sampleRow (e ▸ h)

/-- What the statement claims of a command that took `s` to `t`. -/
def OwnFrame (c : Instr) (s t : State) : Prop :=
  t.pending = s.pending ∧
  (c.isStrobe = false → c.isReset = false → t.time = s.time ∧ t.strobeOut = s.strobeOut) ∧
  ((∀ v, c ≠ .areaBase v) → c ≠ .pinReset → t.run.areaBase = s.run.areaBase) ∧
  ((∀ m, c ≠ .enables m) → c.isReset = false → t.run.enables = s.run.enables) ∧
  ((∀ v, c ≠ .cause v) → c.isReset = false →
    ∀ i, s.run.causes.getLsbD i = true → t.run.causes.getLsbD i = true)

theorem Leaves.ownFrame {s t : State} (h : Leaves s t) (c : Instr) : OwnFrame c s t :=
  ⟨h.keeps.pending, fun _ _ => ⟨h.keeps.time, h.keeps.strobeOut⟩, fun _ _ => h.keeps.areaBase,
    fun _ _ => h.keeps.enables, fun _ _ => h.grow⟩

theorem StrobeLeaves.ownFrame {s t : State} (h : StrobeLeaves s t) {c : Instr} (hc : c.isStrobe = true) :
    OwnFrame c s t :=
  ⟨h.pending, fun hn _ => absurd hc (by simp [hn]), fun _ _ => h.areaBase, fun _ _ => h.enables, fun _ _ => h.grow⟩

theorem ownFrame_enables {m : BitVec 6} {s t : State} (h : exec (.enables m) s = .next t) :
    OwnFrame (.enables m) s t := by
  cases h
  exact ⟨rfl, fun _ _ => ⟨rfl, rfl⟩, fun _ _ => rfl, fun hn _ => absurd rfl (hn m), fun _ _ _ hi => hi⟩

theorem ownFrame_areaBase {v : Word} {s t : State} (h : exec (.areaBase v) s = .next t) :
    OwnFrame (.areaBase v) s t := by
  cases h
  split
  · exact ⟨rfl, fun _ _ => ⟨rfl, rfl⟩, fun hn _ => absurd rfl (hn v), fun _ _ => rfl, fun _ _ _ hi => hi⟩
  · exact (Leaves.refl s).ownFrame _

theorem ownFrame_cause {v : Word} {s t : State} (h : exec (.cause v) s = .next t) : OwnFrame (.cause v) s t := by
  cases h
  exact ⟨rfl, fun _ _ => ⟨rfl, rfl⟩, fun _ _ => rfl, fun _ _ => rfl, fun hn => absurd rfl (hn v)⟩

/-- A reset may change all but the waiting commands and, by the soft reset, the area base. -/
theorem ownFrame_of_isReset {c : Instr} {s t : State} (hc : c.isReset = true) (hp : t.pending = s.pending)
    (ha : c ≠ .pinReset → t.run.areaBase = s.run.areaBase) : OwnFrame c s t :=
  have no : c.isReset ≠ false := by simp [hc]
  ⟨hp, fun _ h => absurd h no, fun _ => ha, fun _ h => absurd h no, fun _ h => absurd h no⟩

/-- Settles O2: every command by the shared operation that it is made of. -/
theorem commandsKeepWhatOthersOwn : Obligations.CommandsKeepWhatOthersOwn := by
  intro c s t h
  change OwnFrame c s t
  cases c
  case strobeInstant => exact (StrobeLeaves.exec rfl h).ownFrame rfl
  case linkLost g => exact (StrobeLeaves.exec rfl h).ownFrame rfl
  case batchDelayExpiry => exact (StrobeLeaves.exec rfl h).ownFrame rfl
  case batchAbsoluteExpiry => exact (StrobeLeaves.exec rfl h).ownFrame rfl
  case orderPoll => exact (StrobeLeaves.exec rfl h).ownFrame rfl
  case testSettleEnd => exact (StrobeLeaves.exec rfl h).ownFrame rfl
  case stimulusWaitEnd => exact (StrobeLeaves.exec rfl h).ownFrame rfl
  case pulseEnd => exact (StrobeLeaves.exec rfl h).ownFrame rfl
  case dischargeEnd => exact (StrobeLeaves.exec rfl h).ownFrame rfl
  case senseFrame g b => cases h; exact (Leaves.senseFrame s g b).ownFrame _
  case linkRestored g b => cases h; exact (Leaves.ite _ (.senseFrame s g b)).ownFrame _
  case seizeConfirm => exact (Leaves.execSample rfl h).ownFrame _
  case release => exact (Leaves.execSample rfl h).ownFrame _
  case parkedRelease => exact (Leaves.execSample rfl h).ownFrame _
  case digitEnd => exact (Leaves.execSample rfl h).ownFrame _
  case firstDigitTimeout => exact (Leaves.execSample rfl h).ownFrame _
  case interdigitTimeout => exact (Leaves.execSample rfl h).ownFrame _
  case toneWindowExpiry => exact (Leaves.execSample rfl h).ownFrame _
  case queueWaitNotice => exact (Leaves.execSample rfl h).ownFrame _
  case conditionConfirm => exact (Leaves.execSample rfl h).ownFrame _
  case conditionClear => exact (Leaves.execSample rfl h).ownFrame _
  case powerCrossRaise => exact (Leaves.execSample rfl h).ownFrame _
  case powerCrossClear => exact (Leaves.execSample rfl h).ownFrame _
  case highwayInstant => cases h; exact (Leaves.highwayInstant s).ownFrame _
  case highwayLost => cases h; exact (Leaves.ite _ (.highwayInstant s)).ownFrame _
  case highwayFrame x => cases h; exact (Leaves.highwayFrame s x).ownFrame _
  case highwayRestored x => cases h; exact (Leaves.ite _ (.highwayFrame s x)).ownFrame _
  case blockEnd r x => cases h; exact (Leaves.ite _ (.highwayFrame s x)).ownFrame _
  case memoryAccessDone d => cases h; exact (Leaves.accessDone s d).ownFrame _
  case memoryAccessError => cases h; exact (Leaves.accessFailed s).ownFrame _
  case memoryAccessTimeout => cases h; exact (Leaves.accessFailed s).ownFrame _
  case block => exact (Leaves.orderRow h).ownFrame _
  case unblock => exact (Leaves.orderRow h).ownFrame _
  case attachReceiver => exact (Leaves.orderRow h).ownFrame _
  case detachReceiver => exact (Leaves.orderRow h).ownFrame _
  case resumeCollection => exact (Leaves.orderRow h).ownFrame _
  case reloadProfiles => exact (Leaves.orderRow h).ownFrame _
  case reloadPlan => exact (Leaves.orderRow h).ownFrame _
  case reloadSettings => exact (Leaves.orderRow h).ownFrame _
  case lineTest => exact (Leaves.orderRow h).ownFrame _
  case selfCheck => exact (Leaves.orderRow h).ownFrame _
  case readingDone x =>
    cases h
    exact (Leaves.of_run ((Keeps.refl s).readingDone x) (by simp)).settle.ownFrame _
  case loopWatchRead v =>
    cases h
    exact (Leaves.of_run ((Keeps.refl s).loopWatch v) (by simp)).settle.ownFrame _
  case runStart => cases h; exact (Leaves.mk (Keeps.refl s).runStart (CausesGrow.refl s).runStart).ownFrame _
  case runStop => cases h; exact (Leaves.runStop s).ownFrame _
  case freeze b => cases h; exact (Leaves.freeze s b).ownFrame _
  case resume => cases h; exact (Leaves.mk (Keeps.refl s).resume (CausesGrow.refl s).resume).ownFrame _
  case nudge v =>
    cases h
    exact (Leaves.of_run (Keeps.refl s).nudge (by simp [State.nudge])).settle.ownFrame _
  case ignoredRegisterWrite => cases h; exact (Leaves.refl s).ownFrame _
  case enables m => exact ownFrame_enables h
  case areaBase v => exact ownFrame_areaBase h
  case cause v => exact ownFrame_cause h
  case softReset => cases h; exact ownFrame_of_isReset rfl rfl (fun _ => rfl)
  case pinReset => cases h; exact ownFrame_of_isReset rfl rfl (fun hn => absurd rfl hn)

end Sys2Proof.Machine

/-! ## The sample rows and the agreement filter -/

namespace Sys2Proof.Machine

/-! ### One sample of one line (R10, R12) -/

/-- A sample of line `L`, with what the port does after it, leaves alone what `OnlyLine` names. -/
theorem Near.onlyLine_settle {L : LineNo} {s t : State} (h : Near L s t) : s.OnlyLine L t.settle := by
  have w := h.within
  obtain ⟨ext, hext⟩ := w.appended
  constructor
  case queue => exact ⟨ext, by simp [hext]⟩
  case others => exact fun K hK => by simpa using h.others K hK
  case time => simpa using w.time
  case strobeOut => simpa using w.strobeOut
  case links => simpa using w.links
  case highway => simpa using w.highway
  case plan => simpa using w.plan
  case settings => simpa using w.settings
  case geometry => simpa using w.geometry
  case executor => simpa using w.executor
  case test => simpa using w.test
  case pending => simpa using w.pending
  case nextIndex => simpa using w.nextIndex
  case full => simpa using w.full
  case roomLow => simpa using w.roomLow
  all_goals simp [w.run]

theorem State.OnlyLine.refl (L : LineNo) (s : State) : s.OnlyLine L s :=
  ⟨rfl, rfl, rfl, rfl, rfl, rfl, rfl, rfl, rfl, rfl, rfl, rfl, rfl, rfl, rfl, rfl, rfl, rfl, List.prefix_rfl,
    fun _ _ => rfl⟩

/-- Settles O10: the row is one sample of its line and what the port does after it, or nothing. -/
theorem sampleRowsTouchOneLine : Obligations.SampleRowsTouchOneLine := by
  intro c s t L x hc h
  obtain ⟨due, e⟩ := exec_of_sampleOf hc s
  rw [e] at h
  cases h
  split
  · exact ((Near.refl L s).takeSample x).onlyLine_settle
  · exact .refl L s

/-! ### The agreement filter (R14) -/

theorem Conditioner.filter_spec (c : Conditioner) (r : LoopState) :
    (c.filter r).pa = r ∧ (c.filter r).qa = (if r = c.pa then r else c.qa) ∧ (c.filter r).pb = (c.filter r).qa ∧
    (c.filter r).qb = (if (c.filter r).qa = c.pb then (c.filter r).qa else c.qb) ∧
    (c.filter r).reseed = c.reseed ∧ (c.filter r).vtPrev = c.vtPrev ∧ (c.filter r).vrPrev = c.vrPrev :=
  ⟨rfl, rfl, rfl, rfl, rfl, rfl, rfl⟩

/-- A settled filter passes a raw state on with its third sample in a row, and not before. -/
theorem Conditioner.filter_delay (c : Conditioner) (x y : LoopState) (h1 : c.pa = x) (h2 : c.qa = x) (h3 : c.pb = x)
    (hxy : x ≠ y) :
    (c.filter y).qb = x ∧ ((c.filter y).filter x).qb = x ∧ (((c.filter y).filter x).filter x).qb = x ∧
    ((((c.filter y).filter x).filter x).filter x).qb = x ∧
    ((c.filter y).filter y).qb = x ∧ (((c.filter y).filter y).filter y).qb = y ∧
    (((c.filter y).filter y).filter x).qb = y ∧ ((((c.filter y).filter y).filter x).filter x).qb = y ∧
    (((((c.filter y).filter y).filter x).filter x).filter x).qb = x := by
  have hyx : ¬ y = x := fun e => hxy e.symm
  simp [Conditioner.filter, h1, h2, h3, hxy, hyx]

/-- Every line after reset is the line of the default values. -/
@[simp] theorem State.reset_line (L : LineNo) : State.reset.line L = {} := by
  simp [State.line, State.reset]

/-- Settles O35: the step by definition, the delay on a settled filter, the latches at reset and at entry. -/
theorem agreementFilterStep : Obligations.AgreementFilterStep := by
  refine ⟨Conditioner.filter_spec, fun c x y h1 h2 h3 _ => c.filter_delay x y h1 h2 h3, fun L => ?_,
    fun _ => ⟨rfl, rfl, rfl, rfl⟩⟩
  rw [State.reset_line]
  exact ⟨rfl, rfl, rfl, rfl⟩

end Sys2Proof.Machine

/-! ## Staging, and the timers of a strobe instant -/

namespace Sys2Proof.Machine

/-! ### What staging does to the Journal Unit (R158, R159, R161) -/

/-- The Journal Unit of `t` is that of `s` after some staging and some triggers: the queue has grown, within its bound, the
drops are counted, FULL is as before, and a sequence in progress or a batch owed is still there. -/
structure Stages (s t : State) : Prop where
  appended : s.journal.queue <+: t.journal.queue
  capped : 32 ≤ s.journal.queue.length → t.journal.queue = s.journal.queue
  dropped : min 65535 s.journal.dropped ≤ t.journal.dropped
  gapSet : ∀ L, LineSet.has s.journal.gapSet L = true → LineSet.has t.journal.gapSet L = true
  firstDrop : s.journal.dropped ≠ 0 → t.journal.firstDrop = s.journal.firstDrop
  full : t.journal.full = s.journal.full
  work : s.journal.work ≠ none → t.journal.work ≠ none
  owed : s.journal.batchOwed = true → t.journal.batchOwed = true

section Stages

variable {s t u : State}

theorem Stages.refl (s : State) : Stages s s :=
  ⟨List.prefix_rfl, fun _ => rfl, Nat.min_le_right .., fun _ h => h, fun _ => rfl, rfl, id, id⟩

theorem Stages.trans (h : Stages s t) (g : Stages t u) : Stages s u where
  appended := h.appended.trans g.appended
  capped hs := by rw [g.capped (by rw [h.capped hs]; exact hs), h.capped hs]
  dropped := by have := h.dropped; have := g.dropped; omega
  gapSet L hL := g.gapSet L (h.gapSet L hL)
  firstDrop hs := by rw [g.firstDrop (by have := h.dropped; omega), h.firstDrop hs]
  full := g.full.trans h.full
  work hs := g.work (h.work hs)
  owed hs := g.owed (h.owed hs)

/-- A step that changes at most the dirty set, timers and other records of the Journal Unit. -/
theorem Stages.of_journal (hq : t.journal.queue = s.journal.queue) (hd : t.journal.dropped = s.journal.dropped)
    (hg : t.journal.gapSet = s.journal.gapSet) (hf : t.journal.firstDrop = s.journal.firstDrop)
    (hu : t.journal.full = s.journal.full) (hw : s.journal.work ≠ none → t.journal.work ≠ none)
    (ho : s.journal.batchOwed = true → t.journal.batchOwed = true) : Stages s t :=
  ⟨by rw [hq], fun _ => hq, by rw [hd]; exact Nat.min_le_right .., fun _ h => by rw [hg]; exact h, fun _ => hf, hu, hw,
    ho⟩

theorem Stages.trigger (s : State) : Stages s s.trigger := by
  rcases s.trigger_cases with ⟨_, e⟩ | ⟨_, _, _, e⟩ | ⟨_, _, e⟩ <;> rw [e]
  · exact .refl s
  · exact .of_journal rfl rfl rfl rfl rfl (fun _ h => by cases h) id
  · exact .of_journal rfl rfl rfl rfl rfl id (fun _ => rfl)

@[simp] theorem State.trigger_dropped (s : State) : s.trigger.journal.dropped = s.journal.dropped := by
  rcases s.trigger_cases with ⟨_, e⟩ | ⟨_, _, _, e⟩ | ⟨_, _, e⟩ <;> rw [e] <;> rfl

@[simp] theorem State.trigger_gapSet (s : State) : s.trigger.journal.gapSet = s.journal.gapSet := by
  rcases s.trigger_cases with ⟨_, e⟩ | ⟨_, _, _, e⟩ | ⟨_, _, e⟩ <;> rw [e] <;> rfl

@[simp] theorem State.trigger_firstDrop (s : State) : s.trigger.journal.firstDrop = s.journal.firstDrop := by
  rcases s.trigger_cases with ⟨_, e⟩ | ⟨_, _, _, e⟩ | ⟨_, _, e⟩ <;> rw [e] <;> rfl

theorem LineSet.has_add (x : LineSet) (L K : LineNo) (h : LineSet.has x K = true) :
    LineSet.has (LineSet.add x L) K = true := by
  unfold LineSet.has at *
  simp [LineSet.add, h]

theorem LineSet.has_add_self (x : LineSet) (L : LineNo) : LineSet.has (LineSet.add x L) L = true := by
  simp [LineSet.has, LineSet.add]

theorem Stages.drop (s : State) (l : Option LineNo) : Stages s (s.drop l) where
  appended := List.prefix_rfl
  capped _ := rfl
  dropped := by simp [State.drop]
  gapSet L hL := by
    cases l
    · exact hL
    · exact LineSet.has_add _ _ L hL
  firstDrop hs := by simp [State.drop, hs]
  full := rfl
  work := id
  owed := id

/-- The state with a record at the tail of the queue and the batch timers started, before the triggers (R158). -/
def State.enqueued (s : State) (l : Option LineNo) (b : RecordBody) : State :=
  s.setJournal { s.journal with
    queue := s.journal.queue ++ [⟨l, s.time, b⟩]
    delay := ⟨Timer.started, s.settings.batchDelay⟩
    absolute :=
      if s.journal.queue.isEmpty && !s.journal.absolute.timer.running then startAbsolute s.settings s.journal.absolute
      else s.journal.absolute }

/-- An append is the record at the tail, and then a trigger if it is urgent or makes a batch. -/
theorem State.append_eq (s : State) (l : Option LineNo) (b : RecordBody) (u : Bool) :
    s.append l b u =
      if u || decide (s.settings.batchCount ≤ (s.enqueued l b).journal.queue.length) then (s.enqueued l b).trigger
      else s.enqueued l b := rfl

/-- An append touches none of the records of a drop. -/
theorem State.append_drops (s : State) (l : Option LineNo) (b : RecordBody) (u : Bool) :
    (s.append l b u).journal.dropped = s.journal.dropped ∧ (s.append l b u).journal.gapSet = s.journal.gapSet ∧
    (s.append l b u).journal.firstDrop = s.journal.firstDrop := by
  rw [State.append_eq]
  split <;> simp [State.enqueued]

theorem Stages.enqueued (s : State) (l : Option LineNo) (b : RecordBody) (hq : s.journal.queue.length < 32) :
    Stages s (s.enqueued l b) :=
  ⟨List.prefix_append .., fun h => absurd h (by omega), Nat.min_le_right .., fun _ h => h, fun _ => rfl, rfl, id, id⟩

theorem Stages.append (s : State) (l : Option LineNo) (b : RecordBody) (u : Bool)
    (hq : s.journal.queue.length < 32) : Stages s (s.append l b u) := by
  rw [State.append_eq]
  split
  · exact (Stages.enqueued s l b hq).trans (.trigger _)
  · exact .enqueued s l b hq

theorem Stages.stage (s : State) (l : Option LineNo) (b : RecordBody) (u : Bool) : Stages s (s.stage l b u) := by
  unfold State.stage
  split
  · exact .append s l b u ‹_›
  · exact .drop s l

theorem State.grantShared_work (s : State) (h : s.journal.work ≠ none) : s.grantShared.journal.work ≠ none := by
  have hg : s.journalGranted.journal.work ≠ none := by
    unfold State.journalGranted
    repeat' split
    all_goals simp_all
  unfold State.grantShared
  repeat' split
  all_goals assumption

/-- The port at the end of a command stages nothing. -/
theorem Stages.settle (s : State) : Stages s s.settle := by
  refine .of_journal (by simp) (by simp) (by simp) (by simp) (by simp) (fun h => ?_) (by simp)
  unfold State.settle
  split
  · exact h
  · split
    · unfold State.grantStart
      split <;> exact h
    · split
      · exact h
      · exact s.grantShared_work h
    · refine s.beginFinal.grantShared_work ?_
      unfold State.beginFinal
      split
      · simp [State.beginBatch]
      · exact h
    · exact h

/-! ### The record staged first -/

/-- At 32 records a record is dropped (R159), below it is appended (R158). -/
theorem State.stage_of_room (s : State) (l : Option LineNo) (b : RecordBody) (u : Bool)
    (h : s.journal.queue.length < 32) : s.stage l b u = s.append l b u := if_pos h

theorem State.stage_of_full (s : State) (l : Option LineNo) (b : RecordBody) (u : Bool)
    (h : 32 ≤ s.journal.queue.length) : s.stage l b u = s.drop l := if_neg (Nat.not_lt.mpr h)

/-- A record staged where the queue and the dropped count still stand as in `s` is the first one staged after `s`. -/
theorem stagedFirst_of_stage {l : Option LineNo} {b : RecordBody} {v : Bool} (hq : u.journal.queue = s.journal.queue)
    (hd : u.journal.dropped = s.journal.dropped) (h : Stages (u.stage l b v) t) : s.stagedFirst t u.time l b := by
  unfold State.stagedFirst
  split
  · have ha := h.appended
    rwa [State.stage_queue, if_pos (by rwa [hq]), hq] at ha
  · have hf : 32 ≤ u.journal.queue.length := by rw [hq]; omega
    rw [State.stage_of_full u l b v hf] at h
    have hdrop : (u.drop l).journal.dropped = min 65535 (s.journal.dropped + 1) := by rw [← hd]; rfl
    refine ⟨(h.capped hf).trans hq, ?_, ?_, fun h0 => ?_⟩
    · have := h.dropped
      omega
    · rintro L rfl
      exact h.gapSet L (LineSet.has_add_self _ L)
    · rw [h.firstDrop (by omega)]
      simp [State.drop, hd, h0]

/-- A trigger is taken for `s` if it stands where FULL is as in `s`, a sequence of `s` is in progress and the control state
is that of `s` (R161). -/
theorem triggerTaken_of_trigger (hs : Stages s u) (hc : u.run.control = s.run.control) (ht : Stages u.trigger t) :
    s.triggerTaken t := by
  intro hf
  have hu : u.journal.full = false := hs.full.trans hf
  rcases u.trigger_cases with ⟨h, _⟩ | ⟨_, hr, hn, e⟩ | ⟨_, hn, e⟩
  · simp [hu] at h
  · have hw : t.journal.work ≠ none := ht.work (by rw [e]; simp [State.beginBatch])
    have hn' : s.journal.work = none := by
      by_contra h
      exact hs.work h hn
    simpa [← hc, hr, hn'] using hw
  · split
    · rename_i h
      have hw : u.journal.work ≠ none := fun h0 => hn ⟨hc.trans h.1, h0⟩
      exact ht.work (by rw [e]; exact hw)
    · exact ht.owed (by rw [e]; rfl)

/-- An urgent append is a trigger (R161). -/
theorem triggerTaken_of_stage {l : Option LineNo} {b : RecordBody} (hs : Stages s u)
    (hc : u.run.control = s.run.control) (hq : u.journal.queue.length < 32) (ht : Stages (u.stage l b true) t) :
    s.triggerTaken t := by
  rw [State.stage_of_room u l b true hq] at ht
  rw [State.append_eq, Bool.true_or, if_pos rfl] at ht
  exact triggerTaken_of_trigger (hs.trans (.enqueued u l b hq)) hc ht

end Stages

end Sys2Proof.Machine

/-! ## The strobe instant (R1, R2, R6) -/

namespace Sys2Proof.Machine

/-! ### The millisecond timers -/

/-- What the millisecond timers and the tests leave alone at a strobe instant: the links, the highway, the pool, the copies
of the settings, the plan and the geometry, the Run Control, and all that staging writes. -/
structure Ticks (s t : State) : Prop where
  links : t.links = s.links
  highway : t.highway = s.highway
  pool : t.pool = s.pool
  plan : t.plan = s.plan
  settings : t.settings = s.settings
  geometry : t.geometry = s.geometry
  run : t.run = s.run
  gapSet : t.journal.gapSet = s.journal.gapSet
  queue : t.journal.queue = s.journal.queue
  dropped : t.journal.dropped = s.journal.dropped
  stages : Stages s t

section Ticks

variable {s t u : State}

theorem Ticks.refl (s : State) : Ticks s s := ⟨rfl, rfl, rfl, rfl, rfl, rfl, rfl, rfl, rfl, rfl, .refl s⟩

theorem Ticks.trans (h : Ticks s t) (g : Ticks t u) : Ticks s u :=
  ⟨g.links.trans h.links, g.highway.trans h.highway, g.pool.trans h.pool, g.plan.trans h.plan,
    g.settings.trans h.settings, g.geometry.trans h.geometry, g.run.trans h.run, g.gapSet.trans h.gapSet,
    g.queue.trans h.queue, g.dropped.trans h.dropped, h.stages.trans g.stages⟩

/-- A change of the executor, of the Test Engine or of the lines. -/
theorem Ticks.of_journal (h1 : t.links = s.links) (h2 : t.highway = s.highway) (h3 : t.pool = s.pool)
    (h4 : t.plan = s.plan) (h5 : t.settings = s.settings) (h6 : t.geometry = s.geometry) (h7 : t.run = s.run)
    (h8 : t.journal = s.journal) : Ticks s t :=
  ⟨h1, h2, h3, h4, h5, h6, h7, by rw [h8], by rw [h8], by rw [h8],
    .of_journal (by rw [h8]) (by rw [h8]) (by rw [h8]) (by rw [h8]) (by rw [h8]) (by rw [h8]; exact id)
      (by rw [h8]; exact id)⟩

theorem Ticks.setExecutor (h : Ticks s t) (x : Executor) : Ticks s (t.setExecutor x) :=
  h.trans (.of_journal rfl rfl rfl rfl rfl rfl rfl rfl)

theorem Ticks.setTest (h : Ticks s t) (x : TestEngine) : Ticks s (t.setTest x) :=
  h.trans (.of_journal rfl rfl rfl rfl rfl rfl rfl rfl)

theorem Ticks.setLine (h : Ticks s t) (L : LineNo) (x : Line) : Ticks s (t.setLine L x) :=
  h.trans (.of_journal rfl rfl rfl rfl rfl rfl rfl rfl)

theorem Ticks.markUntimed (h : Ticks s t) (L : LineNo) : Ticks s (t.markUntimed L) :=
  h.trans ⟨rfl, rfl, rfl, rfl, rfl, rfl, rfl, rfl, rfl, rfl, .of_journal rfl rfl rfl rfl rfl id id⟩

theorem Ticks.changeHook (h : Ticks s t) (L : LineNo) (x : Hook) : Ticks s (t.changeHook L x) := by
  unfold State.changeHook
  split
  · exact h
  · exact (((h.setLine ..).setLine ..).setLine ..).markUntimed _

theorem Ticks.trigger (h : Ticks s t) : Ticks s t.trigger :=
  have w := Within.trigger t
  h.trans ⟨w.links, w.highway, t.trigger_pool, w.plan, w.settings, w.geometry, w.run, t.trigger_gapSet,
    t.trigger_queue, t.trigger_dropped, .trigger t⟩

theorem Ticks.tickDelay (h : Ticks s t) : Ticks s t.tickDelay := by
  have h1 : Ticks s (t.setJournal { t.journal with delay := t.journal.delay.tick }) :=
    h.trans ⟨rfl, rfl, rfl, rfl, rfl, rfl, rfl, rfl, rfl, rfl, .of_journal rfl rfl rfl rfl rfl id id⟩
  unfold State.tickDelay
  dsimp only
  split
  · exact h1.trigger
  · exact h1

theorem Ticks.tickAbsolute (h : Ticks s t) : Ticks s t.tickAbsolute := by
  have h1 : Ticks s (t.setJournal { t.journal with absolute := t.journal.absolute.tick }) :=
    h.trans ⟨rfl, rfl, rfl, rfl, rfl, rfl, rfl, rfl, rfl, rfl, .of_journal rfl rfl rfl rfl rfl id id⟩
  unfold State.tickAbsolute
  dsimp only
  split
  · exact h1.trigger
  · exact h1

theorem Ticks.journalPoll (h : Ticks s t) : Ticks s t.journalPoll := by
  have h1 : ∀ r, Ticks s (t.setJournal { t.journal with recheckOwed := r }) := fun _ =>
    h.trans ⟨rfl, rfl, rfl, rfl, rfl, rfl, rfl, rfl, rfl, rfl, .of_journal rfl rfl rfl rfl rfl id id⟩
  unfold State.journalPoll
  split
  · split
    · split
      · exact h.trans ⟨rfl, rfl, rfl, rfl, rfl, rfl, rfl, rfl, rfl, rfl,
          .of_journal rfl rfl rfl rfl rfl (fun _ h => by cases h) id⟩
      · exact h
    · exact h1 _
    · exact h1 _
    · exact h
  · exact h

theorem Ticks.executorPoll (h : Ticks s t) : Ticks s t.executorPoll := by
  unfold State.executorPoll
  repeat' split
  · exact h.setExecutor _
  · exact h.setExecutor _
  · exact h.setExecutor _
  · exact h
  · exact h

theorem Ticks.tickPoll (h : Ticks s t) : Ticks s t.tickPoll := by
  unfold State.tickPoll
  repeat' split
  · exact (h.setExecutor _).journalPoll.executorPoll
  · exact h.setExecutor _
  · exact h

theorem Ticks.completeOrder (h : Ticks s t) (r : OrderResult) : Ticks s (t.completeOrder r) := by
  unfold State.completeOrder
  split
  · exact h.setExecutor _
  · exact h

theorem Ticks.returnLine (h : Ticks s t) (L : LineNo) : Ticks s (t.returnLine L) :=
  (h.changeHook L _).setLine ..

theorem Ticks.finishTest (h : Ticks s t) : Ticks s t.finishTest := by
  unfold State.finishTest
  split
  · exact h
  · exact ((h.setTest _).returnLine _).completeOrder _

theorem Ticks.closeTest (h : Ticks s t) : Ticks s t.closeTest := by
  unfold State.closeTest
  dsimp only
  split
  · exact h.setTest _
  · exact (h.setTest _).finishTest

theorem Ticks.afterResistance (h : Ticks s t) : Ticks s t.afterResistance := by
  unfold State.afterResistance
  split
  · exact h.setTest _
  · exact h.closeTest

theorem Ticks.afterVoltage (h : Ticks s t) : Ticks s t.afterVoltage := by
  unfold State.afterVoltage
  split
  · exact h.setTest _
  · exact h.afterResistance

theorem Ticks.beginTests (h : Ticks s t) : Ticks s t.beginTests := by
  unfold State.beginTests
  dsimp only
  split
  · exact (h.setTest _).setTest _
  · exact (h.setTest _).afterVoltage

theorem Ticks.dischargeEnd (h : Ticks s t) (n : AfterDischarge) : Ticks s (t.dischargeEnd n) := by
  cases n
  case resistance => exact h.setTest _
  case capacitance => exact h.setTest _
  case close => exact (h.setTest _).finishTest

theorem Ticks.tickTest (h : Ticks s t) : Ticks s t.tickTest.1 := by
  unfold State.tickTest
  split
  · split
    · exact h.beginTests
    · exact h.setTest _
  · split <;> exact h.setTest _
  · split <;> exact h.setTest _
  · split
    · exact h.dischargeEnd _
    · exact h.setTest _
  · exact h

end Ticks

/-! ### The closing of the link periods -/

section CloseLinks

variable {s t : State}

/-- What the closing of the link periods leaves alone. -/
theorem State.closeLink_frame (s : State) (g : LinkNo) :
    (s.closeLink g).time = s.time ∧ (s.closeLink g).highway = s.highway ∧ (s.closeLink g).pool = s.pool ∧
    (s.closeLink g).plan = s.plan ∧ (s.closeLink g).settings = s.settings ∧
    (s.closeLink g).geometry = s.geometry := by
  unfold State.closeLink
  dsimp only
  split
  · have w := Within.stage (s.setLink g ((s.link g).closed s.time)) none (.linkLost g (s.link g).lastCount) true
    exact ⟨w.time, w.highway, by simp, w.plan, w.settings, w.geometry⟩
  · exact ⟨rfl, rfl, rfl, rfl, rfl, rfl⟩

theorem State.closeLinks_frame (gs : List LinkNo) (s : State) :
    (gs.foldl State.closeLink s).time = s.time ∧ (gs.foldl State.closeLink s).highway = s.highway ∧
    (gs.foldl State.closeLink s).pool = s.pool ∧ (gs.foldl State.closeLink s).plan = s.plan ∧
    (gs.foldl State.closeLink s).settings = s.settings ∧ (gs.foldl State.closeLink s).geometry = s.geometry := by
  induction gs generalizing s with
  | nil => exact ⟨rfl, rfl, rfl, rfl, rfl, rfl⟩
  | cons g gs ih =>
    obtain ⟨h1, h2, h3, h4, h5, h6⟩ := s.closeLink_frame g
    obtain ⟨i1, i2, i3, i4, i5, i6⟩ := ih (s.closeLink g)
    exact ⟨i1.trans h1, i2.trans h2, i3.trans h3, i4.trans h4, i5.trans h5, i6.trans h6⟩

/-- A link closes its own period and no other's. -/
theorem State.closeLink_link (s : State) (g k : LinkNo) :
    (s.closeLink g).link k = if k = g then (s.link g).closed s.time else s.link k := by
  unfold State.closeLink
  dsimp only
  split
  · rw [(Within.stage ..).link, State.link_setLink]
  · rw [State.link_setLink]

theorem State.foldl_closeLink_link (gs : List LinkNo) (hn : gs.Nodup) (s : State) (k : LinkNo) :
    (gs.foldl State.closeLink s).link k = if k ∈ gs then (s.link k).closed s.time else s.link k := by
  induction gs generalizing s with
  | nil => simp
  | cons g gs ih =>
    obtain ⟨hg, hn⟩ := List.nodup_cons.mp hn
    rw [List.foldl_cons, ih hn, (s.closeLink_frame g).1, State.closeLink_link]
    by_cases e : k = g
    · subst e
      simp [hg]
    · simp [e]

theorem mem_allLinks (g : LinkNo) : g ∈ allLinks := by revert g; decide

theorem allLinks_nodup : allLinks.Nodup := by decide

/-- Every link closes the period that has ended (R6). -/
theorem State.closeLinks_link (s : State) (g : LinkNo) : s.closeLinks.link g = (s.link g).closed s.time := by
  unfold State.closeLinks
  rw [State.foldl_closeLink_link _ allLinks_nodup, if_pos (mem_allLinks g)]

/-- The table of R6. -/
theorem Link.closed_eq (l : Link) (now : Word) :
    l.closed now =
      if l.up then
        if l.credit then { l with missing := 0, credit := false }
        else if l.missing + 1 < 3 then { l with missing := l.missing + 1, credit := false }
        else { l with up := false, downSince := now, runCount := 0, missing := 0, reportRestore := true, credit := false }
      else if l.credit then { l with credit := false }
      else { l with runCount := 0, credit := false } := by
  cases hu : l.up
  · cases hc : l.credit <;> simp [Link.closed, Link.losing, hu, hc]
  · cases hc : l.credit
    · by_cases h : l.missing + 1 < 3 <;> simp [Link.closed, Link.losing, hu, hc, h]
    · simp [Link.closed, Link.losing, hu, hc]

end CloseLinks

/-! ### The instant -/

section Instant

variable (s : State)

/-- The state in which the links close: cabinet time advanced and the timers taken. -/
def State.ticked : State := s.advanceTime.tickDelay.tickAbsolute.tickPoll.tickTest.1

theorem State.strobeInstant_of_live (h : s.run.control.live = true) : s.strobeInstant.1 = s.ticked.closeLinks := by
  simp [State.strobeInstant, State.tickLive, State.ticked, h]

theorem State.strobeInstant_of_not_live (h : s.run.control.live = false) :
    s.strobeInstant.1 = s.advanceTime.tickDelay.tickAbsolute := by
  simp [State.strobeInstant, State.tickLive, h]

theorem Ticks.ticked : Ticks s.advanceTime s.ticked :=
  (Ticks.refl _).tickDelay.tickAbsolute.tickPoll.tickTest

theorem State.ticked_time : s.ticked.time = s.time + 1 :=
  (Keeps.refl s.advanceTime).tickDelay.tickAbsolute.tickPoll.tickTest.time

theorem State.ticked_link (g : LinkNo) : s.ticked.link g = s.link g := by
  unfold State.link
  rw [(Ticks.ticked s).links]
  rfl

/-- What every strobe instant leaves alone. -/
theorem State.strobeInstant_frame :
    s.strobeInstant.1.highway = s.highway ∧ s.strobeInstant.1.pool = s.pool ∧ s.strobeInstant.1.plan = s.plan ∧
    s.strobeInstant.1.settings = s.settings ∧ s.strobeInstant.1.geometry = s.geometry := by
  cases h : s.run.control.live
  · have k := (Ticks.refl s.advanceTime).tickDelay.tickAbsolute
    rw [s.strobeInstant_of_not_live h]
    exact ⟨k.highway, k.pool, k.plan, k.settings, k.geometry⟩
  · have k := Ticks.ticked s
    obtain ⟨_, h1, h2, h3, h4, h5⟩ := State.closeLinks_frame allLinks s.ticked
    rw [s.strobeInstant_of_live h]
    exact ⟨h1.trans k.highway, h2.trans k.pool, h3.trans k.plan, h4.trans k.settings, h5.trans k.geometry⟩

theorem ControlState.live_iff (c : ControlState) : c.live = true ↔ c = .running ∨ c = .frozen ∨ c = .memoryError := by
  cases c <;> simp [ControlState.live]

end Instant

/-- Settles O12: cabinet time and the strobe first, and then steps that keep them and what they share no record with. -/
theorem strobeInstantAdvancesTime : Obligations.StrobeInstantAdvancesTime := by
  intro s
  have k := Keeps.strobeInstant s
  obtain ⟨h1, h2, h3, h4, h5⟩ := s.strobeInstant_frame
  exact ⟨_, rfl, k.time, k.strobeOut, by simpa using h1, by simpa using h2, by simpa using h3, by simpa using h4,
    by simpa using h5, k.areaBase, k.enables, k.pending⟩

/-- Settles O13: each link closes once, with the table of R6, where the links run. -/
theorem strobeInstantClosesLinkPeriods : Obligations.StrobeInstantClosesLinkPeriods := by
  intro s g
  refine ⟨_, rfl, ?_⟩
  rw [State.settle_link]
  cases h : s.run.control.live
  · have k := (Ticks.refl s.advanceTime).tickDelay.tickAbsolute
    rw [if_neg (fun hc => by simp [(s.run.control.live_iff).mpr hc] at h), s.strobeInstant_of_not_live h]
    unfold State.link
    rw [k.links]
    rfl
  · rw [if_pos (s.run.control.live_iff.mp h), s.strobeInstant_of_live h, State.closeLinks_link, s.ticked_link,
      s.ticked_time, Link.closed_eq]

/-! ### The loss of a link (R6, R9) -/

section LinkLoss

variable {s : State} {g : LinkNo}

/-- A link that is lost stages LINK_LOST; any other only has its record closed. -/
theorem State.closeLink_of_losing (h : (s.link g).losing = true) :
    s.closeLink g =
      (s.setLink g ((s.link g).closed s.time)).stage none (.linkLost g (s.link g).lastCount) true := by
  simp [State.closeLink, h]

theorem State.closeLink_of_not_losing (h : (s.link g).losing = false) :
    s.closeLink g = s.setLink g ((s.link g).closed s.time) := by
  simp [State.closeLink, h]

theorem Stages.setLink (s : State) (g : LinkNo) (x : Link) : Stages s (s.setLink g x) :=
  .of_journal rfl rfl rfl rfl rfl id id

theorem Stages.closeLink (s : State) (g : LinkNo) : Stages s (s.closeLink g) := by
  cases h : (s.link g).losing
  · rw [State.closeLink_of_not_losing h]
    exact .setLink ..
  · rw [State.closeLink_of_losing h]
    exact (Stages.setLink ..).trans (.stage ..)

theorem Stages.foldl {α : Type} (f : State → α → State) (h : ∀ u a, Stages u (f u a)) :
    ∀ (xs : List α) (u : State), Stages u (xs.foldl f u)
  | [], u => .refl u
  | x :: xs, u => (h u x).trans (Stages.foldl f h xs (f u x))

theorem Stages.closeLinks (gs : List LinkNo) (s : State) : Stages s (gs.foldl State.closeLink s) :=
  .foldl _ Stages.closeLink gs s

/-- One link stages one record at most. -/
theorem State.closeLinks_queue_length (gs : List LinkNo) (s : State) :
    (gs.foldl State.closeLink s).journal.queue.length ≤ s.journal.queue.length + gs.length := by
  induction gs generalizing s with
  | nil => exact Nat.le_refl _
  | cons g gs ih =>
    have h1 : (s.closeLink g).journal.queue.length ≤ s.journal.queue.length + 1 := by
      cases h : (s.link g).losing
      · rw [State.closeLink_of_not_losing h]
        exact Nat.le_succ _
      · rw [State.closeLink_of_losing h, State.stage_queue]
        split <;> simp
    have h2 := ih (s.closeLink g)
    simp only [List.foldl_cons, List.length_cons]
    omega

/-- A record of no line leaves the gap set as it is (R159). -/
theorem State.stage_none_gapSet (s : State) (b : RecordBody) (u : Bool) :
    (s.stage none b u).journal.gapSet = s.journal.gapSet := by
  unfold State.stage
  split
  · exact (s.append_drops none b u).2.1
  · rfl

theorem State.closeLinks_gapSet (gs : List LinkNo) (s : State) :
    (gs.foldl State.closeLink s).journal.gapSet = s.journal.gapSet := by
  induction gs generalizing s with
  | nil => rfl
  | cons g gs ih =>
    rw [List.foldl_cons, ih]
    cases h : (s.link g).losing
    · rw [State.closeLink_of_not_losing h]; rfl
    · rw [State.closeLink_of_losing h, State.stage_none_gapSet]; rfl

/-- The first drop, if there has been one, is dated `now` (R159). -/
def DropsDated (now : Word) (s : State) : Prop := s.journal.dropped ≠ 0 → s.journal.firstDrop = now

theorem DropsDated.stage {now : Word} (h : DropsDated now s) (ht : s.time = now) (l : Option LineNo)
    (b : RecordBody) (u : Bool) : DropsDated now (s.stage l b u) := by
  unfold State.stage
  split
  · obtain ⟨hd, _, hf⟩ := s.append_drops l b u
    unfold DropsDated
    rwa [hd, hf]
  · intro _
    by_cases h0 : s.journal.dropped = 0
    · simp [State.drop, h0, ht]
    · simp [State.drop, h0, h h0]

theorem DropsDated.closeLinks {now : Word} (gs : List LinkNo) (h : DropsDated now s) (ht : s.time = now) :
    DropsDated now (gs.foldl State.closeLink s) := by
  induction gs generalizing s with
  | nil => exact h
  | cons g gs ih =>
    refine ih ?_ ((s.closeLink_frame g).1.trans ht)
    cases hl : (s.link g).losing
    · rw [State.closeLink_of_not_losing hl]; exact h
    · rw [State.closeLink_of_losing hl]; exact DropsDated.stage (s := s.setLink g _) h ht _ _ _

/-- The links before `g` and after it, in the order in which they close. -/
theorem allLinks_split (g : LinkNo) : ∃ pre post, allLinks = pre ++ g :: post ∧ g ∉ pre ∧ pre.length ≤ 11 := by
  obtain ⟨pre, post, e⟩ := List.append_of_mem (mem_allLinks g)
  have hn := allLinks_nodup
  have hl : allLinks.length = 12 := rfl
  rw [e] at hn hl
  refine ⟨pre, post, e, ?_, ?_⟩
  · exact fun hg => (List.nodup_append.mp hn).2.2 g hg g List.mem_cons_self rfl
  · simp at hl
    omega

/-- Where a link is lost: a state `u` reached from that after the timers by links that closed before it; there the link
stands as before the instant, its LINK_LOST is staged, and the links after it close. -/
theorem State.strobeInstant_of_losing (hlive : s.run.control.live = true) (hl : (s.link g).losing = true) :
    ∃ pre post : List LinkNo, pre.length ≤ 11 ∧ (pre.foldl State.closeLink s.ticked).link g = s.link g ∧
      s.strobeInstant.1 = post.foldl State.closeLink
        (((pre.foldl State.closeLink s.ticked).setLink g ((s.link g).closed (s.time + 1))).stage none
          (.linkLost g (s.link g).lastCount) true) := by
  obtain ⟨pre, post, e, hg, hlen⟩ := allLinks_split g
  have hn : pre.Nodup := by
    have := allLinks_nodup
    rw [e] at this
    exact (List.nodup_append.mp this).1
  have hu : (pre.foldl State.closeLink s.ticked).link g = s.link g := by
    rw [State.foldl_closeLink_link pre hn, if_neg hg, s.ticked_link]
  refine ⟨pre, post, hlen, hu, ?_⟩
  rw [s.strobeInstant_of_live hlive, State.closeLinks, e, List.foldl_append, List.foldl_cons,
    State.closeLink_of_losing (by rw [hu]; exact hl), hu, (State.closeLinks_frame pre _).1, s.ticked_time]

/-- The row of a link that is being lost is the strobe instant (log entry 1). -/
theorem exec_linkLost_of_losing (hlive : s.run.control.live = true) (hl : (s.link g).losing = true) :
    exec (.linkLost g) s = .next s.strobeInstant.1.settle := by
  have hd : s.strobeInstant.2.lost.contains g = true := by
    show s.losingLinks.contains g = true
    simp [State.losingLinks, hlive, hl, mem_allLinks g]
  show Host.Outcome.next (if s.strobeInstant.2.lost.contains g = true then _ else _) = _
  rw [if_pos hd]

theorem Link.losing_of {l : Link} (h1 : l.up = true) (h2 : l.credit = false) (h3 : 2 ≤ l.missing) :
    l.losing = true := by
  simp [Link.losing, h1, h2, Config.linkMissingLimit]
  omega

theorem Link.closed_of_losing {l : Link} (h : l.losing = true) (now : Word) :
    l.closed now =
      { l with up := false, downSince := now, runCount := 0, missing := 0, reportRestore := true, credit := false } := by
  simp [Link.closed, h]

/-- The record of a lost link. -/
theorem State.strobeInstant_link_of_losing (hlive : s.run.control.live = true) (hl : (s.link g).losing = true) :
    s.strobeInstant.1.settle.link g =
      { s.link g with
        up := false, downSince := s.time + 1, runCount := 0, missing := 0, reportRestore := true, credit := false } := by
  rw [State.settle_link, s.strobeInstant_of_live hlive, State.closeLinks_link, s.ticked_link, s.ticked_time,
    Link.closed_of_losing hl]

/-- With room for a record of each link LINK_LOST is staged, and its trigger taken. -/
theorem linkLost_staged (hlive : s.run.control.live = true) (hl : (s.link g).losing = true)
    (hq : s.journal.queue.length ≤ 20) :
    (⟨none, s.time + 1, .linkLost g (s.link g).lastCount⟩ : Record) ∈ s.strobeInstant.1.settle.journal.queue ∧
      s.triggerTaken s.strobeInstant.1.settle := by
  obtain ⟨pre, post, hlen, _, e⟩ := State.strobeInstant_of_losing hlive hl
  have k := Ticks.ticked s
  generalize hu : (pre.foldl State.closeLink s.ticked).setLink g ((s.link g).closed (s.time + 1)) = u at e
  have hs : Stages s u := by
    subst hu
    have h0 : Stages s s.advanceTime := .of_journal rfl rfl rfl rfl rfl id id
    exact h0.trans (k.stages.trans ((Stages.closeLinks pre _).trans (.setLink ..)))
  have hroom : u.journal.queue.length < 32 := by
    subst hu
    have h1 := State.closeLinks_queue_length pre s.ticked
    have h2 : s.ticked.journal.queue.length = s.journal.queue.length := by rw [k.queue]; rfl
    show (pre.foldl State.closeLink s.ticked).journal.queue.length < 32
    omega
  have hrun : u.run = s.run := by
    subst hu
    exact (State.foldl_run _ State.closeLink_run pre s.ticked).trans k.run
  have htime : u.time = s.time + 1 := by
    subst hu
    exact (State.closeLinks_frame pre s.ticked).1.trans s.ticked_time
  have after : Stages (u.stage none (.linkLost g (s.link g).lastCount) true) s.strobeInstant.1.settle := by
    rw [e]
    exact (Stages.closeLinks post _).trans (.settle _)
  refine ⟨after.appended.subset ?_, triggerTaken_of_stage hs (by rw [hrun]) hroom after⟩
  rw [State.stage_queue, if_pos hroom, htime]
  exact List.mem_append_right _ (List.mem_singleton.mpr rfl)

/-- At 32 records LINK_LOST is counted as dropped, of no line. -/
theorem linkLost_dropped (hlive : s.run.control.live = true) (hl : (s.link g).losing = true)
    (hq : 32 ≤ s.journal.queue.length) :
    s.strobeInstant.1.settle.journal.queue = s.journal.queue ∧
      min 65535 (s.journal.dropped + 1) ≤ s.strobeInstant.1.settle.journal.dropped ∧
      s.strobeInstant.1.settle.journal.gapSet = s.journal.gapSet ∧
      (s.journal.dropped = 0 → s.strobeInstant.1.settle.journal.firstDrop = s.time + 1) := by
  have k := Ticks.ticked s
  have hq' : 32 ≤ s.ticked.journal.queue.length := by rw [k.queue]; exact hq
  have hd' : s.ticked.journal.dropped = s.journal.dropped := k.dropped
  have hdrop : min 65535 (s.journal.dropped + 1) ≤ s.strobeInstant.1.journal.dropped := by
    obtain ⟨pre, post, _, _, e⟩ := State.strobeInstant_of_losing hlive hl
    generalize hu : (pre.foldl State.closeLink s.ticked).setLink g ((s.link g).closed (s.time + 1)) = u at e
    have h1 : Stages s.ticked u := by
      subst hu
      exact (Stages.closeLinks pre s.ticked).trans (.setLink ..)
    rw [State.stage_of_full u _ _ _ (by rw [h1.capped hq']; exact hq')] at e
    have h2 := (Stages.closeLinks post (u.drop none)).dropped
    have h3 : (u.drop none).journal.dropped = min 65535 (u.journal.dropped + 1) := rfl
    have h4 := h1.dropped
    rw [e]
    omega
  have hs : Stages s.ticked s.strobeInstant.1 := by
    rw [s.strobeInstant_of_live hlive]
    exact .closeLinks allLinks _
  refine ⟨?_, by simpa using hdrop, ?_, fun h0 => ?_⟩
  · rw [State.settle_queue, hs.capped hq', k.queue]
    rfl
  · rw [State.settle_gapSet, s.strobeInstant_of_live hlive, State.closeLinks, State.closeLinks_gapSet, k.gapSet]
    rfl
  · have hdated : DropsDated (s.time + 1) s.strobeInstant.1 := by
      rw [s.strobeInstant_of_live hlive]
      exact DropsDated.closeLinks allLinks (fun h => absurd (hd'.trans h0) h) s.ticked_time
    rw [State.settle_firstDrop]
    exact hdated (by omega)

end LinkLoss

/-- Settles O14: LINK_LOST is staged by its link among the links that close, and staging keeps what is staged. -/
theorem linkLossIsStagedUrgent : Obligations.LinkLossIsStagedUrgent := by
  constructor
  · intro s g hlive hup hc hm hq
    have hl := Link.losing_of hup hc hm
    obtain ⟨hmem, htrig⟩ := linkLost_staged hlive hl hq
    refine ⟨_, exec_linkLost_of_losing hlive hl, ?_⟩
    rw [State.strobeInstant_link_of_losing hlive hl]
    exact ⟨rfl, rfl, rfl, rfl, rfl, rfl, (Keeps.strobeInstant s).time, hmem, htrig⟩
  · intro s g hlive hup hc hm hq
    have hl := Link.losing_of hup hc hm
    refine ⟨_, exec_linkLost_of_losing hlive hl, ?_, linkLost_dropped hlive hl hq⟩
    rw [State.strobeInstant_link_of_losing hlive hl]

end Sys2Proof.Machine

/-! ## Frames at a sense link (R3, R5, R7) -/

namespace Sys2Proof.Machine

section Frames

variable {s : State} {g : LinkNo} {bs : List Byte} {fr : Frame}

/-! ### The five cases of a frame -/

theorem State.senseFrame_of_not_live (h : s.run.control.live = false) : s.senseFrame g bs = (s, false) := by
  simp [State.senseFrame, h]

theorem State.senseFrame_up_invalid (hu : (s.link g).up = true) (hp : parseFrame bs = none) :
    s.senseFrame g bs = (s, false) := by
  simp [State.senseFrame, hp, hu]

theorem State.senseFrame_up_valid (hl : s.run.control.live = true) (hu : (s.link g).up = true)
    (hp : parseFrame bs = some fr) : s.senseFrame g bs = (s.acceptFrame g fr, false) := by
  simp [State.senseFrame, hp, hu, hl]

theorem State.senseFrame_down_invalid (hl : s.run.control.live = true) (hu : (s.link g).up = false)
    (hp : parseFrame bs = none) : s.senseFrame g bs = (s.setLink g { s.link g with runCount := 0 }, false) := by
  simp [State.senseFrame, hp, hu, hl]

theorem State.senseFrame_down_valid (hl : s.run.control.live = true) (hu : (s.link g).up = false)
    (hp : parseFrame bs = some fr) : s.senseFrame g bs = s.runFrame g fr := by
  simp [State.senseFrame, hp, hu, hl]

theorem exec_senseFrame (g : LinkNo) (bs : List Byte) (s : State) :
    exec (.senseFrame g bs) s = .next (s.senseFrame g bs).1.settle := rfl

/-! ### The run of a DOWN link (R7) -/

/-- The run is complete exactly with the fourth frame or a later one in sequence. -/
theorem runCountAfter_ge (l : Link) (count : Nat) :
    4 ≤ runCountAfter l count ↔ 3 ≤ l.runCount ∧ count = (l.lastCount + 1) % 16 := by
  unfold runCountAfter
  split <;> omega

theorem State.runFrame_of_incomplete (h : ¬ 4 ≤ runCountAfter (s.link g) fr.count) :
    s.runFrame g fr = (s.setLink g ((s.link g).run fr.count), false) := by
  unfold State.runFrame
  exact if_neg h

theorem State.runFrame_of_complete (h : 4 ≤ runCountAfter (s.link g) fr.count) :
    s.runFrame g fr = ((s.setLink g ((s.link g).run fr.count)).restoreLink g fr, true) := by
  unfold State.runFrame
  exact if_pos h

end Frames

/-- Settles O17: a frame at a DOWN link that does not complete the run writes the link record alone. -/
theorem frameAtDownLink : Obligations.FrameAtDownLink := by
  constructor
  · intro s g bs hl hu hp
    exact ⟨_, exec_senseFrame .., by simp [State.senseFrame_down_invalid hl hu hp]⟩
  · intro s g bs fr hl hu hp hr
    have hn : ¬ 4 ≤ runCountAfter (s.link g) fr.count := by
      rw [runCountAfter_ge]
      omega
    refine ⟨_, exec_senseFrame .., ?_⟩
    rw [State.senseFrame_down_valid hl hu hp, State.runFrame_of_incomplete hn]
    simp [Link.run, runCountAfter]

end Sys2Proof.Machine

/-! ## Entry to RUNNING (R178) -/

namespace Sys2Proof.Machine

section Start

variable (s : State)

/-! ### What entry to RUNNING gives each record -/

theorem State.enterRunning_run :
    s.enterRunning.run = { s.run with control := .running, startResult := .ok, start := none } := rfl

theorem State.enterRunning_line (L : LineNo) : s.enterRunning.line L = (s.line L).running :=
  mapEach_getElem _ s.lines L.val L.isLt

theorem State.enterRunning_link (g : LinkNo) : s.enterRunning.link g = { downSince := s.time } :=
  mapEach_getElem _ s.links g.val g.isLt

theorem Pool.running_getElem (n : Nat) (r : RxNo) : (Pool.running n).rx[r.val] = Receiver.running n r.val := by
  fin_cases r <;> rfl

theorem State.enterRunning_receiver (r : RxNo) :
    s.enterRunning.receiver r = Receiver.running s.settings.receiversEnabled r.val :=
  Pool.running_getElem s.settings.receiversEnabled r

/-- The work owed begins in the Journal Unit alone, which keeps what it counts and stages. -/
structure BeginsWork (s t : State) : Prop where
  rest : t = { s with journal := t.journal }
  queue : t.journal.queue = s.journal.queue
  dropped : t.journal.dropped = s.journal.dropped
  gapSet : t.journal.gapSet = s.journal.gapSet
  full : t.journal.full = s.journal.full
  roomLow : t.journal.roomLow = s.journal.roomLow
  nextIndex : t.journal.nextIndex = s.journal.nextIndex

theorem BeginsWork.refl : BeginsWork s s := ⟨rfl, rfl, rfl, rfl, rfl, rfl, rfl⟩

theorem BeginsWork.owedWork : BeginsWork s s.owedWork := by
  unfold State.owedWork
  repeat' split
  · exact .refl s
  · exact ⟨rfl, rfl, rfl, rfl, rfl, rfl, rfl⟩
  · exact ⟨rfl, rfl, rfl, rfl, rfl, rfl, rfl⟩
  · exact .refl s

/-! ### The end of the start sequence -/

/-- The part as it enters RUNNING: RUN_STARTED staged, and every block with its values of entry (R178 steps 6 and 7). -/
def State.started (q : StartSeq) : State :=
  (s.stage none (.runStarted s.geometry.journalLength s.geometry.priorityLength s.geometry.routineLength
    q.settingsClamped q.linesClamped)).enterRunning

theorem State.startEnds_eq (q : StartSeq) :
    s.startEnds q = if s.run.freezeAsked then s.started q else (s.started q).owedWork := rfl

theorem BeginsWork.startEnds (q : StartSeq) : BeginsWork (s.started q) (s.startEnds q) := by
  rw [State.startEnds_eq]
  split
  · exact .refl _
  · exact .owedWork _

theorem State.started_run (q : StartSeq) :
    (s.started q).run = { s.run with control := .running, startResult := .ok, start := none } := by
  unfold State.started
  rw [State.enterRunning_run, State.stage_run]

theorem State.started_line (q : StartSeq) (L : LineNo) : (s.started q).line L = (s.line L).running := by
  unfold State.started
  rw [State.enterRunning_line, State.stage_line]

theorem State.started_link (q : StartSeq) (g : LinkNo) : (s.started q).link g = { downSince := s.time } := by
  unfold State.started
  rw [State.enterRunning_link, (Within.stage ..).time]

theorem State.started_receiver (q : StartSeq) (r : RxNo) :
    (s.started q).receiver r = Receiver.running s.settings.receiversEnabled r.val := by
  unfold State.started
  rw [State.enterRunning_receiver, (Within.stage ..).settings]

theorem State.started_executor (q : StartSeq) : (s.started q).executor = Executor.running s.run.freezeAsked := by
  show Executor.running (s.stage none _ false).run.freezeAsked = _
  rw [State.stage_run]

theorem State.started_pool (q : StartSeq) : (s.started q).pool = Pool.running s.settings.receiversEnabled := by
  show Pool.running (s.stage none _ false).settings.receiversEnabled = _
  rw [(Within.stage ..).settings]

theorem State.started_highway (q : StartSeq) : (s.started q).highway = { lostSince := s.time } := by
  show Highway.running (s.stage none _ false).time = _
  rw [(Within.stage ..).time]
  rfl

theorem State.started_time (q : StartSeq) : (s.started q).time = s.time := (Within.stage ..).time

theorem State.started_queue (q : StartSeq) :
    (s.started q).journal.queue =
      if s.journal.queue.length < 32 then
        s.journal.queue ++ [⟨none, s.time, .runStarted s.geometry.journalLength s.geometry.priorityLength
          s.geometry.routineLength q.settingsClamped q.linesClamped⟩]
      else s.journal.queue :=
  State.stage_queue ..

/-- The good response to the status block write ends the start (R178). -/
theorem State.accessDone_of_start {a : Access} {live : Bool} {q : StartSeq} (d : List Byte)
    (hc : s.run.control = .starting) (hp : s.run.port = .busy a live) (hw : a.write = true)
    (hq : s.run.start = some q) (hb : q.step = .block) :
    s.accessDone d = (s.freePort.startEnds q).settle := by
  have hd : s.freePort.startDone d = s.freePort.startEnds q := by
    unfold State.startDone
    rw [show s.freePort.run.start = some q from hq]
    simp only [hb]
  simp [State.accessDone, hp, Access.answeredBy, hw, hc, hd]

/-- In RUNNING at a free port: the freeze if it is asked, and else a grant, which raises no cause (R173, R180). -/
theorem State.settle_run_of_running (hc : s.run.control = .running) (hp : s.run.port = .free) :
    s.settle.run.control = (if s.run.freezeAsked then .frozen else .running) ∧
    s.settle.run.causes = (if s.run.freezeAsked then s.run.causes ||| 16 else s.run.causes) := by
  have hs : s.settle = if s.run.freezeAsked then s.enterFrozen else s.grantShared := by
    simp [State.settle, hp, hc]
  have hg : s.grantShared.run.control = .running := by
    rcases (Settles.grantShared s).control with h | ⟨_, h⟩
    · exact h.trans hc
    · revert h
      unfold State.grantShared
      repeat' split
      all_goals simp [State.grantJournal, State.grantExecutor, State.occupy, State.journalGranted_run, hc]
  rw [hs]
  split
  · exact ⟨rfl, rfl⟩
  · exact ⟨hg, s.grantShared_causes⟩

end Start

/-- Settles O47: the start staged and entered, the work owed begun, and the port's freeze or grant on top of it. -/
theorem startEntersRunning : Obligations.StartEntersRunning := by
  intro s a live data x y L r g hc hp hw hq
  have e := s.accessDone_of_start data hc hp hw hq rfl
  generalize hu : s.freePort.startEnds ⟨.block, x, y⟩ = u at e
  have w := BeginsWork.startEnds s.freePort ⟨.block, x, y⟩
  rw [hu] at w
  have hrun : u.run = { s.run with port := .free, control := .running, startResult := .ok, start := none } := by
    rw [w.rest]
    exact s.freePort.started_run _
  obtain ⟨hcontrol, hcauses⟩ := u.settle_run_of_running (by rw [hrun]) (by rw [hrun])
  rw [hrun] at hcontrol hcauses
  have hline : u.line L = (s.line L).running := by
    rw [w.rest]
    exact s.freePort.started_line _ L
  have hexec : u.executor = Executor.running s.run.freezeAsked := by
    rw [w.rest]
    exact s.freePort.started_executor _
  have hpool : u.pool = Pool.running s.settings.receiversEnabled := by
    rw [w.rest]
    exact s.freePort.started_pool _
  refine ⟨s.accessDone data, rfl, ?_⟩
  rw [e]
  simp only [State.settle_line, State.settle_link, State.settle_receiver, State.settle_startResult, State.settle_start,
    State.settle_dropped, State.settle_gapSet, State.settle_full, State.settle_roomLow, State.settle_nextIndex,
    State.settle_queue, State.settle_pool, State.settle_highway, State.settle_executor, State.settle_time, hcontrol,
    hcauses, hrun, hline, hexec, hpool, true_and]
  refine ⟨w.queue.trans (s.freePort.started_queue _), w.dropped, w.gapSet, w.full, w.roomLow,
    w.nextIndex, rfl, rfl, rfl, rfl, rfl, ?_, rfl, rfl, rfl, rfl, rfl, rfl, rfl, ?_, rfl, rfl, ?_, ?_, rfl, rfl, rfl, ?_⟩
  · simp [Line.running, tOnOf]
  · rw [w.rest]
    exact s.freePort.started_receiver _ r
  · rw [w.rest]
    exact s.freePort.started_link _ g
  · rw [w.rest]
    exact s.freePort.started_highway _
  · rw [w.rest]
    exact s.freePort.started_time _

end Sys2Proof.Machine

/-! ## What the operations of one line's blocks edit

Every operation of the Supervision Engine, the Pulse Decoder, the Digit Collector, the Fault Monitor and the pool is a
sequence of a few edits: a line record rewritten, a receiver, the wait queue, a mark of a status entry, a record staged.
Each operation is shown once to be such a sequence, with the parts it may touch; what an edit keeps, it keeps. -/

namespace Sys2Proof.Machine

/-- The parts that an operation of one line's blocks may touch: the supervision record but for baseline and thresholds,
those, the pulse decoder, the collection, the fault record, the pool, and the staging of records. -/
inductive EditPart where
  | sup | base | dec | coll | fault | pool | stage
  deriving DecidableEq

/-- What a line record keeps when only the parts `ps` may be touched. Always kept are the latches and previous voltages and
the profile; the reseed flag and the entry marks may change, and the supervision timer never goes up. -/
structure Line.Keeps (ps : List EditPart) (a b : Line) : Prop where
  latches : { b.cond with reseed := false } = { a.cond with reseed := false }
  timer : b.sup.timer.value ≤ a.sup.timer.value
  profile : b.profile = a.profile
  sup : .sup ∉ ps →
    b.sup = { a.sup with b := b.sup.b, seeded := b.sup.seeded, tOn := b.sup.tOn, tOff := b.sup.tOff }
  base : .base ∉ ps →
    b.sup.b = a.sup.b ∧ b.sup.seeded = a.sup.seeded ∧ b.sup.tOn = a.sup.tOn ∧ b.sup.tOff = a.sup.tOff
  dec : .dec ∉ ps → b.dec = a.dec
  coll : .coll ∉ ps → b.coll = a.coll
  fault : .fault ∉ ps → b.fault = a.fault

/-- `t` comes from `s` by edits of the parts `ps`. -/
inductive Edits (ps : List EditPart) (s : State) : State → Prop where
  | refl : Edits ps s s
  | setLine {t : State} (h : Edits ps s t) (L : LineNo) (x : Line) (k : (t.line L).Keeps ps x) :
      Edits ps s (t.setLine L x)
  | setReceiver {t : State} (h : Edits ps s t) (hp : .pool ∈ ps) (r : RxNo) (x : Receiver) :
      Edits ps s (t.setReceiver r x)
  | setQueue {t : State} (h : Edits ps s t) (hp : .pool ∈ ps) (q : List QueueEntry) : Edits ps s (t.setQueue q)
  | markUntimed {t : State} (h : Edits ps s t) (L : LineNo) : Edits ps s (t.markUntimed L)
  | stage {t : State} (h : Edits ps s t) (hj : .stage ∈ ps) (l : Option LineNo) (b : RecordBody) (u : Bool) :
      Edits ps s (t.stage l b u)

section Keeps

variable {ps : List EditPart} {a b c : Line}

theorem Line.Keeps.refl (ps : List EditPart) (a : Line) : a.Keeps ps a :=
  ⟨rfl, Nat.le_refl _, rfl, fun _ => rfl, fun _ => ⟨rfl, rfl, rfl, rfl⟩, fun _ => rfl, fun _ => rfl, fun _ => rfl⟩

theorem Line.Keeps.trans (h : a.Keeps ps b) (g : b.Keeps ps c) : a.Keeps ps c where
  latches := g.latches.trans h.latches
  timer := Nat.le_trans g.timer h.timer
  profile := g.profile.trans h.profile
  sup hp := by rw [g.sup hp, h.sup hp]
  base hp := by
    obtain ⟨h1, h2, h3, h4⟩ := h.base hp
    obtain ⟨g1, g2, g3, g4⟩ := g.base hp
    exact ⟨g1.trans h1, g2.trans h2, g3.trans h3, g4.trans h4⟩
  dec hp := (g.dec hp).trans (h.dec hp)
  coll hp := (g.coll hp).trans (h.coll hp)
  fault hp := (g.fault hp).trans (h.fault hp)

/-- Without `sup` the hook state is kept. -/
theorem Line.Keeps.hook (h : a.Keeps ps b) (hp : .sup ∉ ps) : b.sup.hook = a.sup.hook := by rw [h.sup hp]

/-- Without `sup` the supervision timer is kept. -/
theorem Line.Keeps.sup_timer (h : a.Keeps ps b) (hp : .sup ∉ ps) : b.sup.timer = a.sup.timer := by rw [h.sup hp]

end Keeps

section Kept

variable {ps : List EditPart} {s t : State}

theorem Edits.trans {u : State} (h : Edits ps s t) (g : Edits ps t u) : Edits ps s u := by
  induction g with
  | refl => exact h
  | setLine _ L x k ih => exact ih.setLine L x k
  | setReceiver _ hp r x ih => exact ih.setReceiver hp r x
  | setQueue _ hp q ih => exact ih.setQueue hp q
  | markUntimed _ L ih => exact ih.markUntimed L
  | stage _ hj l b u ih => exact ih.stage hj l b u

/-- Edits keep of every line what an edit keeps. -/
theorem Edits.line (h : Edits ps s t) (K : LineNo) : (s.line K).Keeps ps (t.line K) := by
  induction h with
  | refl => exact .refl ..
  | setLine h L x k ih =>
    rw [State.line_setLine]
    split
    · rename_i e
      subst e
      exact ih.trans k
    · exact ih
  | setReceiver h hp r x ih => exact ih
  | setQueue h hp q ih => exact ih
  | markUntimed h L ih => exact ih
  | stage h hj l b u ih => rwa [State.stage_line]

/-- Edits of other parts keep the pool. -/
theorem Edits.pool (h : Edits ps s t) (hn : .pool ∉ ps) : t.pool = s.pool := by
  induction h with
  | refl => rfl
  | setLine h L x k ih => exact ih
  | setReceiver h hp r x ih => exact absurd hp hn
  | setQueue h hp q ih => exact absurd hp hn
  | markUntimed h L ih => exact ih
  | stage h hj l b u ih => rwa [State.stage_pool]

/-- Edits change the Journal Unit by staging alone, but for the dirty set. -/
theorem Edits.stages (h : Edits ps s t) : Stages s t := by
  induction h with
  | refl => exact .refl s
  | setLine h L x k ih => exact ih.trans (.of_journal rfl rfl rfl rfl rfl id id)
  | setReceiver h hp r x ih => exact ih.trans (.of_journal rfl rfl rfl rfl rfl id id)
  | setQueue h hp q ih => exact ih.trans (.of_journal rfl rfl rfl rfl rfl id id)
  | markUntimed h L ih => exact ih.trans (.of_journal rfl rfl rfl rfl rfl id id)
  | stage h hj l b u ih => exact ih.trans (.stage ..)

/-- Edits without staging change at most the dirty set of the Journal Unit. -/
theorem Edits.journal (h : Edits ps s t) (hn : .stage ∉ ps) :
    t.journal = { s.journal with dirty := t.journal.dirty } := by
  induction h with
  | refl => rfl
  | setLine h L x k ih => exact ih
  | setReceiver h hp r x ih => exact ih
  | setQueue h hp q ih => exact ih
  | @markUntimed t h L ih =>
    exact congrArg (fun j : Journal => { j with dirty := (t.markUntimed L).journal.dirty }) ih
  | stage h hj l b u ih => exact absurd hj hn

end Kept

section Edits

variable {ps : List EditPart} {s t : State} {L : LineNo}

/-! ### One record of a line -/

theorem Edits.setSup (h : Edits ps s t) (hp : .sup ∈ ps) (x : Supervision)
    (ht : x.timer.value ≤ (t.line L).sup.timer.value := by exact Nat.le_refl _)
    (hb : x.b = (t.line L).sup.b ∧ x.seeded = (t.line L).sup.seeded ∧ x.tOn = (t.line L).sup.tOn ∧
      x.tOff = (t.line L).sup.tOff := by exact ⟨rfl, rfl, rfl, rfl⟩) : Edits ps s (t.setSup L x) :=
  h.setLine L _ ⟨rfl, ht, rfl, fun hn => absurd hp hn, fun _ => hb, fun _ => rfl, fun _ => rfl, fun _ => rfl⟩

theorem Edits.setMarks (h : Edits ps s t) (x : EntryMarks) : Edits ps s (t.setMarks L x) :=
  h.setLine L _ ⟨rfl, Nat.le_refl _, rfl, fun _ => rfl, fun _ => ⟨rfl, rfl, rfl, rfl⟩, fun _ => rfl, fun _ => rfl,
    fun _ => rfl⟩

theorem Edits.setDec (h : Edits ps s t) (hp : .dec ∈ ps) (x : PulseDecoder) : Edits ps s (t.setDec L x) :=
  h.setLine L _ ⟨rfl, Nat.le_refl _, rfl, fun _ => rfl, fun _ => ⟨rfl, rfl, rfl, rfl⟩, fun hn => absurd hp hn,
    fun _ => rfl, fun _ => rfl⟩

theorem Edits.setColl (h : Edits ps s t) (hp : .coll ∈ ps) (x : Collection) : Edits ps s (t.setColl L x) :=
  h.setLine L _ ⟨rfl, Nat.le_refl _, rfl, fun _ => rfl, fun _ => ⟨rfl, rfl, rfl, rfl⟩, fun _ => rfl,
    fun hn => absurd hp hn, fun _ => rfl⟩

theorem Edits.setFault (h : Edits ps s t) (hp : .fault ∈ ps) (x : FaultRecord) : Edits ps s (t.setFault L x) :=
  h.setLine L _ ⟨rfl, Nat.le_refl _, rfl, fun _ => rfl, fun _ => ⟨rfl, rfl, rfl, rfl⟩, fun _ => rfl, fun _ => rfl,
    fun hn => absurd hp hn⟩

theorem Edits.askReseed (h : Edits ps s t) : Edits ps s (t.askReseed L) :=
  h.setLine L _ ⟨rfl, Nat.le_refl _, rfl, fun _ => rfl, fun _ => ⟨rfl, rfl, rfl, rfl⟩, fun _ => rfl, fun _ => rfl,
    fun _ => rfl⟩

theorem Edits.markTimed (h : Edits ps s t) (K : LineNo) : Edits ps s (t.markTimed K) := (h.setMarks _).markUntimed K

theorem Edits.changeHook (h : Edits ps s t) (hp : .sup ∈ ps) (x : Hook) : Edits ps s (t.changeHook L x) := by
  unfold State.changeHook
  split
  · exact h
  · exact ((h.setSup hp _).setMarks _).markTimed L

/-! ### The pool -/

theorem Edits.attach (h : Edits ps s t) (hp : .pool ∈ ps) (r : RxNo) (K : LineNo) : Edits ps s (t.attach r K) :=
  (h.setReceiver hp r _).markTimed K

theorem Edits.request (h : Edits ps s t) (hp : .pool ∈ ps) (K : LineNo) : Edits ps s (t.request K) := by
  unfold State.request
  repeat' split
  · exact h
  · exact h.attach hp _ K
  · exact (h.setQueue hp _).markTimed K

theorem Edits.handOver (h : Edits ps s t) (hp : .pool ∈ ps) (r : RxNo) : Edits ps s (t.handOver r) := by
  unfold State.handOver
  split
  · exact h
  · exact (h.setQueue hp _).attach hp r _

theorem Edits.detach (h : Edits ps s t) (hp : .pool ∈ ps) (r : RxNo) (K : LineNo) : Edits ps s (t.detach r K) := by
  have h1 : Edits ps s ((t.setReceiver r (t.receiver r).detached).markTimed K) := (h.setReceiver hp r _).markTimed K
  unfold State.detach
  dsimp only
  split
  · exact h1
  · exact h1.handOver hp r

theorem Edits.release (h : Edits ps s t) (hp : .pool ∈ ps) (K : LineNo) : Edits ps s (t.release K) := by
  unfold State.release
  repeat' split
  · exact h.detach hp _ K
  · exact (h.setQueue hp _).markTimed K
  · exact h

theorem Edits.requestIfTone (h : Edits ps s t) (hp : .pool ∈ ps) : Edits ps s (t.requestIfTone L) := by
  unfold State.requestIfTone
  split
  · exact h.request hp L
  · exact h

theorem Edits.windowStep (h : Edits ps s t) (hj : .stage ∈ ps) (hp : .pool ∈ ps) (r : RxNo) (e : Nat) :
    Edits ps s (t.windowStep L r e).1 := by
  have h1 : ∀ x, Edits ps s (t.setReceiver r x) := h.setReceiver hp r
  unfold State.windowStep
  dsimp only
  split
  · exact ((h1 _).stage hj ..).release hp L
  · exact h1 _

theorem Edits.waitStep (h : Edits ps s t) (hj : .stage ∈ ps) (hp : .pool ∈ ps) (q : QueueEntry) (e : Nat) :
    Edits ps s (t.waitStep L q e).1 := by
  unfold State.waitStep
  dsimp only
  split
  · exact (h.setQueue hp _).stage hj ..
  · exact h.setQueue hp _

theorem Edits.poolStep (h : Edits ps s t) (hj : .stage ∈ ps) (hp : .pool ∈ ps) (e : Nat) (b : Bool) :
    Edits ps s (t.poolStep L e b).1 := by
  unfold State.poolStep
  repeat' split
  · exact h
  · exact h.windowStep hj hp _ e
  · exact h.waitStep hj hp _ e
  · exact h

/-! ### The Digit Collector -/

theorem Edits.openCollection (h : Edits ps s t) (hc : .coll ∈ ps) (b : Bool) : Edits ps s (t.openCollection L b) :=
  (h.setColl hc _).markTimed L

theorem Edits.abandon (h : Edits ps s t) (hc : .coll ∈ ps) : Edits ps s (t.abandon L) := by
  unfold State.abandon
  dsimp only
  split
  · exact h.setColl hc _
  · exact (h.setColl hc _).markTimed L

theorem Edits.complete (h : Edits ps s t) (hj : .stage ∈ ps) (hc : .coll ∈ ps) (hp : .pool ∈ ps) (r : NumberReason)
    (e : Option Nat)
    (u : Bool) : Edits ps s (t.complete L r e u) :=
  (((h.stage hj _ _ u).setColl hc _).markTimed L).release hp L

theorem Edits.noDigits (h : Edits ps s t) (hj : .stage ∈ ps) (hc : .coll ∈ ps) (hp : .pool ∈ ps) : Edits ps s
    (t.noDigits L) :=
  (((h.stage hj _ _ false).setColl hc _).markTimed L).release hp L

theorem Edits.appendSymbol (h : Edits ps s t) (hj : .stage ∈ ps) (hc : .coll ∈ ps) (hp : .pool ∈ ps) (d : Digit) :
    Edits ps s (t.appendSymbol L d) := by
  have h1 : Edits ps s (if (t.line L).coll.string = [] then
      t.stage (some L) (.firstDigit (d.report (t.line L).coll.resumed none)) else t) := by
    split
    · exact h.stage hj ..
    · exact h
  unfold State.appendSymbol
  dsimp only
  split
  · exact ((h1.setColl hc _).markTimed L).complete hj hc hp ..
  · exact (h1.setColl hc _).markTimed L

theorem Edits.takeSymbol (h : Edits ps s t) (hj : .stage ∈ ps) (hc : .coll ∈ ps) (hp : .pool ∈ ps) (d : Digit) :
    Edits ps s (t.takeSymbol L d) := by
  unfold State.takeSymbol
  split
  · exact h.appendSymbol hj hc hp d
  · exact h.stage hj ..
  · exact h

theorem Edits.collTimeouts (h : Edits ps s t) (hj : .stage ∈ ps) (hc : .coll ∈ ps) (hp : .pool ∈ ps) (o d : Bool) :
    Edits ps s (t.collTimeouts L o d).1 := by
  unfold State.collTimeouts
  dsimp only
  repeat' split
  · exact h.noDigits hj hc hp
  · exact h.complete hj hc hp ..
  · exact h

theorem Edits.collectorStep (h : Edits ps s t) (hj : .stage ∈ ps) (hc : .coll ∈ ps) (hp : .pool ∈ ps) (e : Nat)
    (o : Bool)
    (d : Option Digit) : Edits ps s (t.collectorStep L e o d).1 := by
  have h1 : Edits ps s (t.setColl L ((t.line L).coll.advance e o)) := h.setColl hc _
  unfold State.collectorStep
  dsimp only
  split
  · exact (h1.takeSymbol hj hc hp _).collTimeouts hj hc hp ..
  · exact h1.collTimeouts hj hc hp ..

/-! ### The Pulse Decoder -/

theorem Edits.endTrain (h : Edits ps s t) (hj : .stage ∈ ps) (hd : .dec ∈ ps) : Edits ps s (t.endTrain L).1 := by
  unfold State.endTrain
  dsimp only
  repeat' split
  · exact (h.stage hj ..).setDec hd _
  · exact h.setDec hd _
  · exact h

theorem Edits.decoderStep (h : Edits ps s t) (hj : .stage ∈ ps) (hd : .dec ∈ ps) (o : Outcome) (e : Nat) :
    Edits ps s (t.decoderStep L o e).1 := by
  unfold State.decoderStep
  dsimp only
  split
  · exact h.setDec hd _
  · split
    · exact ((h.setDec hd _).endTrain hj hd).setDec hd _
    · exact h
  · split
    · exact (h.setDec hd _).endTrain hj hd
    · exact h
  · split
    · exact (h.stage hj ..).setDec hd _
    · exact h
  · split
    · exact h.setDec hd _
    · exact h
  · split
    · exact (h.setDec hd _).endTrain hj hd
    · exact h

theorem Edits.dropTrain (h : Edits ps s t) (hd : .dec ∈ ps) : Edits ps s (t.dropTrain L) := by
  unfold State.dropTrain
  split
  · exact h.setDec hd _
  · exact h

/-! ### The Supervision Engine -/

theorem Edits.setBaseline (h : Edits ps s t) (hb : .base ∈ ps) (b : Nat) (x : Bool) :
    Edits ps s (t.setBaseline L b x) := by
  have h1 : Edits ps s (t.setSup L ((t.line L).sup.withBaseline (t.line L).profile b x)) :=
    h.setLine L _ ⟨rfl, Nat.le_refl _, rfl, fun _ => rfl, fun hn => absurd hb hn, fun _ => rfl, fun _ => rfl,
      fun _ => rfl⟩
  unfold State.setBaseline
  dsimp only
  split
  · exact h1
  · exact h1.markUntimed L

theorem Edits.baselineStep (h : Edits ps s t) (hb : .base ∈ ps) (c : Conditioned) (i : Int) :
    Edits ps s (t.baselineStep L c i).1 := by
  unfold State.baselineStep
  split
  · exact h.setBaseline hb ..
  · exact h

theorem Edits.stopTimer (h : Edits ps s t) (hp : .sup ∈ ps) : Edits ps s (t.stopTimer L) :=
  h.setSup hp _

theorem Edits.startTimer (h : Edits ps s t) (hp : .sup ∈ ps) : Edits ps s (t.startTimer L) :=
  h.setSup hp _ (Nat.zero_le _)

theorem Edits.clearStartMark (h : Edits ps s t) (hp : .sup ∈ ps) : Edits ps s (t.clearStartMark L) :=
  h.setSup hp _

theorem Edits.teardown (h : Edits ps s t) (hd : .dec ∈ ps) (hc : .coll ∈ ps) (hp : .pool ∈ ps) :
    Edits ps s (t.teardown L) :=
  ((h.dropTrain hd).release hp L).abandon hc

theorem Edits.releaseLine (h : Edits ps s t) (hj : .stage ∈ ps) (hs : .sup ∈ ps) (hd : .dec ∈ ps) (hc : .coll ∈ ps)
    (hp : .pool ∈ ps)
    (b : Bool) : Edits ps s (t.releaseLine L b) :=
  (((h.teardown hd hc hp).stopTimer hs).changeHook hs .onHook).stage hj ..

theorem Edits.park (h : Edits ps s t) (hj : .stage ∈ ps) (hs : .sup ∈ ps) (hd : .dec ∈ ps) (hp : .pool ∈ ps) :
    Edits ps s (t.park L) := by
  unfold State.park
  split
  · exact (((h.dropTrain hd).changeHook hs .parked).release hp L).stage hj ..
  · exact h

theorem Edits.parkIf (h : Edits ps s t) (hj : .stage ∈ ps) (hs : .sup ∈ ps) (hd : .dec ∈ ps) (hp : .pool ∈ ps)
    (b : Bool) :
    Edits ps s (t.parkIf L b) := by
  unfold State.parkIf
  split
  · exact h.park hj hs hd hp
  · exact h

theorem Edits.guardEntry (h : Edits ps s t) (hj : .stage ∈ ps) (hs : .sup ∈ ps) (hd : .dec ∈ ps) (hc : .coll ∈ ps)
    (hp : .pool ∈ ps) :
    Edits ps s (t.guardEntry L) := by
  have h1 : Edits ps s (((t.teardown L).stopTimer L).clearStartMark L) :=
    ((h.teardown hd hc hp).stopTimer hs).clearStartMark hs
  have h2 : ∀ {u : State} (r : ReturnState), Edits ps s u →
      Edits ps s ((u.setSup L { (u.line L).sup with guardReturn := r }).changeHook L .guard) :=
    fun _ k => (k.setSup hs _).changeHook hs .guard
  unfold State.guardEntry
  revert h1
  generalize ((t.teardown L).stopTimer L).clearStartMark L = u
  intro h1
  dsimp only
  split
  · split
    · exact (h2 _ h1).stage hj ..
    · exact h2 _ h1
  · exact h

theorem Edits.guardExit (h : Edits ps s t) (hs : .sup ∈ ps) (hb : .base ∈ ps) : Edits ps s (t.guardExit L) := by
  unfold State.guardExit
  split
  · exact ((((h.changeHook hs _).askReseed).setBaseline hb 0 false).setSup hs _)
  · exact h

theorem Edits.confirmSeizure (h : Edits ps s t) (hj : .stage ∈ ps) (hs : .sup ∈ ps) (hc : .coll ∈ ps) (hp :
    .pool ∈ ps) (x : Sample) :
    Edits ps s (t.confirmSeizure L x) := by
  have h1 : ∀ b, Edits ps s (((t.stopTimer L).changeHook L .active).stage (some L) b) := fun b =>
    ((h.stopTimer hs).changeHook hs .active).stage hj ..
  unfold State.confirmSeizure
  dsimp only
  split
  · exact (((((h1 _).setMarks _).markUntimed L).clearStartMark hs).openCollection hc false).requestIfTone hp
  · exact (((h1 _).clearStartMark hs).openCollection hc false).requestIfTone hp

theorem Edits.flashLine (h : Edits ps s t) (hj : .stage ∈ ps) (hd : .dec ∈ ps) (hc : .coll ∈ ps) (hp : .pool ∈ ps)
    (n : Nat) :
    Edits ps s (t.flashLine L n) :=
  (((h.dropTrain hd).openCollection hc false).stage hj ..).requestIfTone hp

theorem Edits.beginBreak (h : Edits ps s t) (hs : .sup ∈ ps) (x : Hook) : Edits ps s (t.beginBreak L x) :=
  ((h.startTimer hs).setSup hs _).changeHook hs x

theorem Edits.endBreak (h : Edits ps s t) (hj : .stage ∈ ps) (hs : .sup ∈ ps) (hd : .dec ∈ ps) (hc : .coll ∈ ps)
    (hp : .pool ∈ ps) :
    Edits ps s (t.endBreak L).1 := by
  have h1 : Edits ps s ((t.stopTimer L).changeHook L .active) := (h.stopTimer hs).changeHook hs .active
  unfold State.endBreak
  dsimp only
  split
  · dsimp only
    exact h1.flashLine hj hd hc hp _
  · exact h1

theorem Edits.hookStep (h : Edits ps s t) (hj : .stage ∈ ps) (hs : .sup ∈ ps) (hd : .dec ∈ ps) (hc : .coll ∈ ps)
    (hp : .pool ∈ ps)
    (x : Sample) (f : LoopState) : Edits ps s (t.hookStep L x f).1 := by
  unfold State.hookStep
  dsimp only
  split
  · exact (h.startTimer hs).changeHook hs .seizePending
  · exact h.clearStartMark hs
  · exact ((h.stopTimer hs).clearStartMark hs).changeHook hs .onHook
  · split
    · dsimp only
      exact h.confirmSeizure hj hs hc hp x
    · exact h
  · exact h.beginBreak hs .openInterval
  · exact h
  · split
    · dsimp only
      exact h.releaseLine hj hs hd hc hp false
    · split
      · exact h.endBreak hj hs hd hc hp
      · exact h
  · exact h.beginBreak hs .parkedOpen
  · exact h
  · split
    · dsimp only
      exact h.releaseLine hj hs hd hc hp true
    · split
      · exact (h.stopTimer hs).changeHook hs .parked
      · exact h
  · exact h

/-! ### The Fault Monitor -/

theorem Edits.storeCondition (h : Edits ps s t) (hf : .fault ∈ ps) (c : Condition) (r : CondRecord) :
    Edits ps s (t.storeCondition L c r) := by
  unfold State.storeCondition
  dsimp only
  split
  · exact h.setFault hf _
  · exact (h.setFault hf _).markTimed L

theorem Edits.reportCondition (h : Edits ps s t) (hj : .stage ∈ ps) (c : Condition) (o : CondRecord)
    (f : CondEffect) (k : Hook)
    (v : Nat) (u : Bool) : Edits ps s (t.reportCondition L c o f k v u) := by
  cases f
  case none => exact h
  case raise => exact h.stage hj ..
  case clear => exact h.stage hj ..

theorem Edits.evalIf (h : Edits ps s t) (hj : .stage ∈ ps) (hf : .fault ∈ ps) (b : Bool) (c : Condition) (p : Bool)
    (e : Nat) (k : Hook)
    (v : Nat) : Edits ps s (t.evalIf b L c p e k v).1 := by
  unfold State.evalIf
  split
  · exact (h.storeCondition hf c _).reportCondition hj ..
  · exact h

theorem Edits.evalCross (h : Edits ps s t) (hj : .stage ∈ ps) (hf : .fault ∈ ps) (x : Sample) (k : Hook) :
    Edits ps s (t.evalCross L x k).1 :=
  ((h.setFault hf _).storeCondition hf .powerCross _).reportCondition hj ..

theorem Edits.faultConditions (h : Edits ps s t) (hj : .stage ∈ ps) (hf : .fault ∈ ps) (x : Sample)
    (c : Conditioned) (k : Hook)
    (b : Bool) : Edits ps s (t.faultConditions L x c k b).1 :=
  (((((h.setFault hf _).evalCross hj hf x k).evalIf hj hf ..).evalIf hj hf ..).evalIf hj hf ..).evalIf hj hf ..

theorem Edits.guardRequest (h : Edits ps s t) (hj : .stage ∈ ps) (hs : .sup ∈ ps) (hb : .base ∈ ps) (hd : .dec ∈ ps)
    (hc : .coll ∈ ps)
    (hp : .pool ∈ ps) (g : GuardRequest) : Edits ps s (t.guardRequest L g) := by
  cases g
  case none => exact h
  case entry => exact h.guardEntry hj hs hd hc hp
  case exit => exact h.guardExit hs hb

end Edits

end Sys2Proof.Machine

/-! ## One sample of a line (R10, R18) -/

namespace Sys2Proof.Machine

/-! ### A sample as its steps -/

section Steps

/-- All the parts of a line's blocks. -/
abbrev allParts : List EditPart := [.sup, .base, .dec, .coll, .fault, .pool, .stage]

/-- What a sample does after the Supervision Engine's step `r`: the baseline, the decoder, the collector, the pool, the
Fault Monitor and its GUARD request. -/
def State.afterHook (s : State) (L : LineNo) (x : Sample) (c : Conditioned) (wasServed : Bool) (r : SupResult) :
    State × SampleReport :=
  let e := x.elapsed.val
  let r3 := s.baselineStep L c x.i
  let hook := (r3.1.line L).sup.hook
  let r4 := r3.1.decoderStep L r.outcome e
  let r5 := r4.1.collectorStep L e r.opened r4.2.digit
  let s5 := r5.1.parkIf L r5.2.park
  let r6 := s5.poolStep L e (!wasServed)
  let r7 := r6.1.faultConditions L x c hook r3.2
  (r7.1.guardRequest L r7.2.guard, ⟨r, r4.2, r5.2, r6.2, r7.2⟩)

/-- The state that the Supervision Engine's step of a sample finds. -/
def State.beforeHook (s : State) (L : LineNo) (x : Sample) : State :=
  (s.conditionStep L x).advanceTimer L x.elapsed.val

/-- The Supervision Engine's step of a sample. -/
def State.hookOf (s : State) (L : LineNo) (x : Sample) : State × SupResult :=
  (s.beforeHook L x).hookStep L x ((s.line L).conditioned x).filtered

/-- A sample that is not discarded, cut at the Supervision Engine's step. -/
theorem State.takeSample_of_taken {s : State} {L : LineNo} (x : Sample) (h : (s.line L).sup.hook.discards = false) :
    s.takeSample L x =
      (s.hookOf L x).1.afterHook L x ((s.line L).conditioned x) (s.served L) (s.hookOf L x).2 := by
  unfold State.takeSample
  rw [if_neg (by simp [h])]
  rfl

theorem State.takeSample_of_discarded {s : State} {L : LineNo} (x : Sample)
    (h : (s.line L).sup.hook.discards = true) : s.takeSample L x = (s, {}) := by
  unfold State.takeSample
  rw [if_pos h]

theorem Hook.discards_iff (h : Hook) : h.discards = true ↔ h = .notEquipped ∨ h = .testing := by
  cases h <;> simp [Hook.discards]

theorem Edits.afterHook (s : State) (L : LineNo) (x : Sample) (c : Conditioned) (w : Bool) (r : SupResult) :
    Edits allParts s (s.afterHook L x c w r).1 := by
  have hj : EditPart.stage ∈ allParts := by decide
  have hs : EditPart.sup ∈ allParts := by decide
  have hb : EditPart.base ∈ allParts := by decide
  have hd : EditPart.dec ∈ allParts := by decide
  have hc : EditPart.coll ∈ allParts := by decide
  have hf : EditPart.fault ∈ allParts := by decide
  have hp : EditPart.pool ∈ allParts := by decide
  unfold State.afterHook
  dsimp only
  exact ((((((Edits.refl.baselineStep hb c x.i).decoderStep hj hd ..).collectorStep hj hc hp ..).parkIf hj hs hd hp
    _).poolStep hj hp ..).faultConditions hj hf ..).guardRequest hj hs hb hd hc hp _

theorem Edits.hookOf (s : State) (L : LineNo) (x : Sample) :
    Edits allParts (s.beforeHook L x) (s.hookOf L x).1 :=
  Edits.refl.hookStep (by decide) (by decide) (by decide) (by decide) (by decide) x _

/-- After the conditioner and the timer a sample is a sequence of edits. -/
theorem Edits.takeSample {s : State} {L : LineNo} (x : Sample) (h : (s.line L).sup.hook.discards = false) :
    Edits allParts (s.beforeHook L x) (s.takeSample L x).1 := by
  rw [State.takeSample_of_taken x h]
  exact (Edits.hookOf s L x).trans (.afterHook ..)

/-- The line as the Supervision Engine's step finds it: latches and previous voltages of the sample, the timer advanced. -/
theorem State.beforeHook_line (s : State) (L : LineNo) (x : Sample) :
    (s.beforeHook L x).line L =
      { s.line L with
        cond := { (s.line L).latched x.i with vtPrev := x.vt, vrPrev := x.vr }
        sup := { (s.line L).sup with timer := (s.line L).sup.timer.advance x.elapsed.val } } := by
  simp [State.beforeHook, State.advanceTimer, State.conditionStep]

theorem Stages.beforeHook (s : State) (L : LineNo) (x : Sample) : Stages s (s.beforeHook L x) :=
  .of_journal rfl rfl rfl rfl rfl id id

/-- A sample changes the Journal Unit by staging alone, but for the dirty set. -/
theorem Stages.takeSample (s : State) (L : LineNo) (x : Sample) : Stages s (s.takeSample L x).1 := by
  cases h : (s.line L).sup.hook.discards
  · exact (Stages.beforeHook s L x).trans (Edits.takeSample x h).stages
  · rw [State.takeSample_of_discarded x h]
    exact .refl s

/-- The latches after a taken sample are those of the filter with the sample's raw loop state, and the previous voltages
those of the sample; the reseed flag aside, which a GUARD exit sets again (R14 to R16). -/
theorem State.takeSample_cond {s : State} {L : LineNo} (x : Sample) (h : (s.line L).sup.hook.discards = false) :
    { ((s.takeSample L x).1.line L).cond with reseed := false } =
      { (s.line L).latched x.i with reseed := false, vtPrev := x.vt, vrPrev := x.vr } := by
  rw [((Edits.takeSample x h).line L).latches, State.beforeHook_line]

/-- No supervision timer is further on after a sample with elapsed value 0 (R8, R11). -/
theorem State.takeSample_timer_of_elapsed_zero (s : State) (L : LineNo) (x : Sample) (he : x.elapsed = 0) :
    ((s.takeSample L x).1.line L).sup.timer.value ≤ (s.line L).sup.timer.value := by
  cases h : (s.line L).sup.hook.discards
  · refine Nat.le_trans ((Edits.takeSample x h).line L).timer ?_
    rw [State.beforeHook_line, he]
    simp only [Timer.advance]
    split
    · exact Nat.min_le_right ..
    · exact Nat.le_refl _
  · rw [State.takeSample_of_discarded x h]

end Steps

/-! ### A sample at which nothing comes of the train, of the collection timers and of the GUARD request -/

section Quiet

variable {s : State} {L : LineNo}

/-- With no train open, nothing comes of a sample without a pulse (R44). -/
theorem State.decoderStep_of_closed {o : Outcome} (h : (s.line L).dec.trainOpen = false)
    (ho : o = .none ∨ o = .breakBegun) (e : Nat) : s.decoderStep L o e = (s, {}) := by
  rcases ho with rfl | rfl <;> simp [State.decoderStep, h]

/-- Without a digit and with neither timer at its limit the collector only advances its timers (R88). -/
theorem State.collectorStep_of_noTimeout {e : Nat} (h : (s.line L).noTimeout e = true) :
    s.collectorStep L e false none = (s.setColl L ((s.line L).coll.advance e false), {}) := by
  unfold Line.noTimeout at h
  by_cases hc : (s.line L).coll.state = .collecting
  · simp only [hc, decide_true, Bool.not_true, Bool.false_or, Bool.and_eq_true, Bool.not_eq_true'] at h
    simp [State.collectorStep, State.collTimeouts, Collection.advance, hc, h.1, h.2]
  · simp [State.collectorStep, State.collTimeouts, Collection.advance, hc]

/-- A sample that is not high asks for no GUARD entry (R107, R108). -/
theorem CondRecord.stepCross_low (r : CondRecord) (run : Nat) (now : Word) :
    (r.stepCross false run now).2.2 ≠ .entry := by
  unfold CondRecord.stepCross
  cases r.state
  case clear => simp
  case suspect => simp
  case raised => simp
  case clearing =>
    dsimp only
    split <;> simp

theorem State.faultConditions_guard_of_low {x : Sample} (hx : sampleHigh x = false) (c : Conditioned) (k : Hook)
    (b : Bool) : (s.faultConditions L x c k b).2.guard ≠ .entry := by
  simp only [State.faultConditions, State.evalCross, hx]
  exact CondRecord.stepCross_low _ _ _

/-- Outside GUARD a GUARD exit does nothing (R33). -/
theorem State.guardRequest_of_not_guard {g : GuardRequest} (hg : g ≠ .entry) (h : (s.line L).sup.hook ≠ .guard) :
    s.guardRequest L g = s := by
  cases g
  case none => rfl
  case entry => exact absurd rfl hg
  case exit => simp [State.guardRequest, State.guardExit, h]

theorem State.receiverOf_of_not_served (h : s.served L = false) : s.receiverOf L = none := by
  simpa [State.served] using (Bool.or_eq_false_iff.mp h).1

/-- The pool takes no sample of a line that it does not serve (R72). -/
theorem State.poolStep_of_not_served (h : s.served L = false) (e : Nat) (b : Bool) : s.poolStep L e b = (s, {}) := by
  have hq : s.pool.queue.find? (fun x => decide (x.line = L)) = none := by
    simpa [State.queued] using (Bool.or_eq_false_iff.mp h).2
  unfold State.poolStep
  rw [State.receiverOf_of_not_served h, hq]
  split <;> rfl

theorem State.served_of_pool {t : State} (h : t.pool = s.pool) : t.served L = s.served L := by
  have hr : ∀ r, t.receiver r = s.receiver r := fun r => by unfold State.receiver; rw [h]
  simp [State.served, State.receiverOf, State.queued, hr, h]

/-- What such a sample leaves after the Supervision Engine's step: the collection timers advanced, the hook state, the timer
and the decoder as they were, and the pool too of a line that it does not serve. -/
theorem State.afterHook_quiet {x : Sample} {c : Conditioned} {w : Bool} {r : SupResult}
    (hd : (s.line L).dec.trainOpen = false) (ho : r.outcome = .none ∨ r.outcome = .breakBegun)
    (hopen : r.opened = false) (hc : (s.line L).noTimeout x.elapsed.val = true)
    (hg : (s.line L).sup.hook ≠ .guard) (hx : sampleHigh x = false) :
    ((s.afterHook L x c w r).1.line L).coll = (s.line L).coll.advance x.elapsed.val false ∧
    ((s.afterHook L x c w r).1.line L).dec = (s.line L).dec ∧
    ((s.afterHook L x c w r).1.line L).sup.hook = (s.line L).sup.hook ∧
    ((s.afterHook L x c w r).1.line L).sup.timer = (s.line L).sup.timer ∧
    (s.served L = false → (s.afterHook L x c w r).1.pool = s.pool) := by
  have k3 : Edits [.base] s (s.baselineStep L c x.i).1 := Edits.refl.baselineStep (by decide) ..
  have l3 := k3.line L
  generalize hs3 : s.baselineStep L c x.i = r3 at k3 l3
  have h4 : r3.1.decoderStep L r.outcome x.elapsed.val = (r3.1, {}) :=
    State.decoderStep_of_closed (by rw [l3.dec (by decide)]; exact hd) ho _
  have hc3 : (r3.1.line L).noTimeout x.elapsed.val = true := by
    unfold Line.noTimeout at hc ⊢
    rw [l3.coll (by decide), l3.profile]
    exact hc
  generalize hs5 : r3.1.setColl L ((r3.1.line L).coll.advance x.elapsed.val false) = s5
  have h5 : r3.1.collectorStep L x.elapsed.val false none = (s5, {}) := hs5 ▸ State.collectorStep_of_noTimeout hc3
  have k6 : Edits [.pool, .stage] s5 (s5.poolStep L x.elapsed.val (!w)).1 :=
    Edits.refl.poolStep (by decide) (by decide) ..
  have l6 := k6.line L
  generalize hs6 : s5.poolStep L x.elapsed.val (!w) = r6 at k6 l6
  have k7 : Edits [.fault, .stage] r6.1 (r6.1.faultConditions L x c (r3.1.line L).sup.hook r3.2).1 :=
    Edits.refl.faultConditions (by decide) (by decide) ..
  have l7 := k7.line L
  have g7 := State.faultConditions_guard_of_low (s := r6.1) (L := L) hx c (r3.1.line L).sup.hook r3.2
  generalize hs7 : r6.1.faultConditions L x c (r3.1.line L).sup.hook r3.2 = r7 at k7 l7 g7
  have l5 : s5.line L = { r3.1.line L with coll := (s.line L).coll.advance x.elapsed.val false } := by
    rw [← hs5, State.line_setColl_self, l3.coll (by decide)]
  have hook7 : (r7.1.line L).sup.hook = (s.line L).sup.hook := by
    rw [l7.hook (by decide), l6.hook (by decide), l5, ← l3.hook (by decide)]
  have e : (s.afterHook L x c w r).1 = r7.1 := by
    simp only [State.afterHook, hs3, h4, hopen, h5, State.parkIf, Bool.false_eq_true, if_false, hs6, hs7]
    exact State.guardRequest_of_not_guard g7 (by rw [hook7]; exact hg)
  rw [e]
  refine ⟨?_, ?_, hook7, ?_, fun hn => ?_⟩
  · rw [l7.coll (by decide), l6.coll (by decide), l5]
  · rw [l7.dec (by decide), l6.dec (by decide), l5, ← l3.dec (by decide)]
  · rw [l7.sup_timer (by decide), l6.sup_timer (by decide), l5, ← l3.sup_timer (by decide)]
  · have p3 : s5.pool = s.pool := by
      rw [← hs5]
      exact k3.pool (by decide)
    have p6 : r6.1 = s5 := by
      rw [← hs6, State.poolStep_of_not_served ((State.served_of_pool p3).trans hn)]
    rw [k7.pool (by decide), p6, p3]

end Quiet

end Sys2Proof.Machine

/-! ## Frames delivered to the eight lines of a group (R5, R8, R10) -/

namespace Sys2Proof.Machine

/-! ### Lines that differ in the time of last change alone -/

section SameButTime

variable {a b : Line}

theorem Line.sameButTime.sup (h : a.sameButTime b) : b.sup = a.sup := by rw [h]
theorem Line.sameButTime.cond (h : a.sameButTime b) : b.cond = a.cond := by rw [h]
theorem Line.sameButTime.dec (h : a.sameButTime b) : b.dec = a.dec := by rw [h]
theorem Line.sameButTime.coll (h : a.sameButTime b) : b.coll = a.coll := by rw [h]
theorem Line.sameButTime.profile (h : a.sameButTime b) : b.profile = a.profile := by rw [h]

end SameButTime

/-! ### The delivery -/

section Deliver

variable {s : State} {g : LinkNo} {fr : Frame} {e : Fin 16}

theorem linkOf_lineAt (g : LinkNo) (p : Fin 8) : linkOf (lineAt g p) = g := by
  apply Fin.ext
  simp only [linkOf, lineAt]
  omega

theorem lineAt_injective (g : LinkNo) : Function.Injective (lineAt g) := by
  intro p q h
  apply Fin.ext
  have := congrArg Fin.val h
  simp only [lineAt] at this
  omega

theorem mem_positions (p : Fin 8) : p ∈ positions := by revert p; decide

theorem positions_nodup : positions.Nodup := by decide

/-- One sample of a frame. -/
theorem Near.deliverAt (s : State) (p : Fin 8) : Near (lineAt g p) s (State.deliverAt g fr e s p) :=
  (Near.refl _ s).takeSample _

/-- Samples of some positions stay within, and leave every line of another position or group as it is. -/
theorem State.foldl_deliverAt (ps : List (Fin 8)) (s : State) :
    Within s (ps.foldl (State.deliverAt g fr e) s) ∧
    ∀ K, (∀ p ∈ ps, K ≠ lineAt g p) → (s.line K).sameButTime ((ps.foldl (State.deliverAt g fr e) s).line K) := by
  induction ps generalizing s with
  | nil => exact ⟨.refl s, fun K _ => .refl _⟩
  | cons p ps ih =>
    have n := Near.deliverAt (g := g) (fr := fr) (e := e) s p
    obtain ⟨w, o⟩ := ih (State.deliverAt g fr e s p)
    exact ⟨n.within.trans w, fun K hK => (n.others K (hK p List.mem_cons_self)).trans
      (o K (fun q hq => hK q (List.mem_cons_of_mem p hq)))⟩

theorem Within.deliver (s : State) (g : LinkNo) (fr : Frame) (e : Fin 16) : Within s (s.deliver g fr e) :=
  (State.foldl_deliverAt positions s).1

/-- A frame leaves the lines of the other groups as they are (R12). -/
theorem State.deliver_other (s : State) (fr : Frame) (e : Fin 16) {K : LineNo} (hK : linkOf K ≠ g) :
    (s.line K).sameButTime ((s.deliver g fr e).line K) :=
  (State.foldl_deliverAt positions s).2 K (fun p _ h => hK (by rw [h, linkOf_lineAt]))

/-- Each line of the group takes its own sample of the frame, and the samples of the others leave it as it is: the sample is
taken at a state `u` in which the line stands as before the frame. -/
theorem State.deliver_line (s : State) (g : LinkNo) (fr : Frame) (e : Fin 16) (p : Fin 8) :
    ∃ u : State, (s.line (lineAt g p)).sameButTime (u.line (lineAt g p)) ∧
      ((u.takeSample (lineAt g p) (fr.sample p e)).1.line (lineAt g p)).sameButTime
        ((s.deliver g fr e).line (lineAt g p)) := by
  obtain ⟨pre, post, hsplit⟩ := List.append_of_mem (mem_positions p)
  have hn := positions_nodup
  rw [hsplit, List.nodup_append, List.nodup_cons] at hn
  obtain ⟨_, ⟨hpost, _⟩, hpre⟩ := hn
  have other : ∀ q, q ≠ p → lineAt g p ≠ lineAt g q := fun q hq h => hq (lineAt_injective g h.symm)
  refine ⟨pre.foldl (State.deliverAt g fr e) s, ?_, ?_⟩
  · exact (State.foldl_deliverAt pre s).2 _ (fun q hq => other q (hpre q hq p List.mem_cons_self))
  · rw [State.deliver, hsplit, List.foldl_append, List.foldl_cons]
    exact (State.foldl_deliverAt post _).2 _ (fun q hq => other q (fun h => hpost (h ▸ hq)))

theorem Stages.deliver (s : State) (g : LinkNo) (fr : Frame) (e : Fin 16) : Stages s (s.deliver g fr e) :=
  .foldl _ (fun u p => .takeSample u (lineAt g p) (fr.sample p e)) positions s

/-! ### The line of a position after a frame -/

theorem Line.latched_of_sameButTime {a b : Line} (h : a.sameButTime b) (i : Int) : b.latched i = a.latched i := by
  unfold Line.latched Line.raw
  rw [h.cond, h.sup]

theorem State.deliver_line_discarded {p : Fin 8} (h : (s.line (lineAt g p)).sup.hook.discards = true) :
    (s.line (lineAt g p)).sameButTime ((s.deliver g fr e).line (lineAt g p)) := by
  obtain ⟨u, hu, ht⟩ := s.deliver_line g fr e p
  rw [State.takeSample_of_discarded _ (by rw [hu.sup]; exact h)] at ht
  exact hu.trans ht

/-- The latches of a line after a frame (R10, R14 to R16). -/
theorem State.deliver_line_cond {p : Fin 8} (h : (s.line (lineAt g p)).sup.hook.discards = false) :
    { ((s.deliver g fr e).line (lineAt g p)).cond with reseed := false } =
      { (s.line (lineAt g p)).latched (fr.sample p e).i with
        reseed := false, vtPrev := (fr.sample p e).vt, vrPrev := (fr.sample p e).vr } := by
  obtain ⟨u, hu, ht⟩ := s.deliver_line g fr e p
  rw [ht.cond, State.takeSample_cond _ (by rw [hu.sup]; exact h), Line.latched_of_sameButTime hu]

end Deliver

/-! ### A frame at an UP link (R5) -/

section Accept

variable {s : State} {g : LinkNo} {fr : Frame} {bs : List Byte}

theorem elapsedOf_val (count last : Nat) : ((elapsedOf count last).val : Int) = ((count : Int) - last) % 16 := by
  simp only [elapsedOf]
  omega

theorem elapsedOf_eq_zero_iff (count last : Nat) : elapsedOf count last = 0 ↔ ((count : Int) - last) % 16 = 0 := by
  rw [← elapsedOf_val, Fin.ext_iff]
  exact Int.natCast_eq_zero.symm

/-- The link record of an accepted frame. -/
def State.credited (s : State) (g : LinkNo) (fr : Frame) : State :=
  s.setLink g { s.link g with lastCount := fr.count, credit := true }

theorem State.acceptFrame_duplicate (h : elapsedOf fr.count (s.link g).lastCount = 0) : s.acceptFrame g fr = s := by
  unfold State.acceptFrame
  exact if_pos h

theorem State.acceptFrame_accepted (h : elapsedOf fr.count (s.link g).lastCount ≠ 0) :
    s.acceptFrame g fr = (s.credited g fr).deliver g fr (elapsedOf fr.count (s.link g).lastCount) := by
  unfold State.acceptFrame
  exact if_neg h

/-- SENSE_FRAME of a frame that an UP link accepts. -/
theorem exec_senseFrame_accepted (hl : s.run.control.live = true) (hu : (s.link g).up = true)
    (hp : parseFrame bs = some fr) (he : ((fr.count : Int) - (s.link g).lastCount) % 16 ≠ 0) :
    exec (.senseFrame g bs) s =
      .next ((s.credited g fr).deliver g fr (elapsedOf fr.count (s.link g).lastCount)).settle := by
  rw [exec_senseFrame, State.senseFrame_up_valid hl hu hp,
    State.acceptFrame_accepted (fun h => he ((elapsedOf_eq_zero_iff ..).mp h))]

theorem exec_senseFrame_duplicate (hl : s.run.control.live = true) (hu : (s.link g).up = true)
    (hp : parseFrame bs = some fr) (he : ((fr.count : Int) - (s.link g).lastCount) % 16 = 0) :
    exec (.senseFrame g bs) s = .next s.settle := by
  rw [exec_senseFrame, State.senseFrame_up_valid hl hu hp,
    State.acceptFrame_duplicate ((elapsedOf_eq_zero_iff ..).mpr he)]

theorem State.credited_link (k : LinkNo) :
    (s.credited g fr).link k = if k = g then { s.link g with lastCount := fr.count, credit := true } else s.link k :=
  State.link_setLink ..

end Accept

/-- Settles O16: the line takes its own sample of the frame, whose conditioner step the later blocks leave alone. -/
theorem acceptedFrameStepsEachLine : Obligations.AcceptedFrameStepsEachLine := by
  intro s g bs fr p hl hu hp he
  refine ⟨_, exec_senseFrame_accepted hl hu hp he, ?_⟩
  dsimp only
  rw [State.settle_line]
  split
  · rename_i h
    exact State.deliver_line_discarded (s := s.credited g fr) ((Hook.discards_iff _).mpr h)
  · rename_i h
    refine State.deliver_line_cond (s := s.credited g fr) ?_
    rw [Bool.eq_false_iff]
    exact fun hd => h ((Hook.discards_iff _).mp hd)

/-! ### The collection timers of a line in its call (R11, R88) -/

section Collecting

variable {s : State} {L : LineNo}

theorem State.changeHook_hook (s : State) (L : LineNo) (h : Hook) : ((s.changeHook L h).line L).sup.hook = h := by
  unfold State.changeHook
  split
  · assumption
  · simp

/-- In ACTIVE the Supervision Engine's step keeps the state or begins a break (R22). -/
theorem State.hookStep_of_active (x : Sample) (f : LoopState) (h : (s.line L).sup.hook = .active) :
    ∃ t r, s.hookStep L x f = (t, r) ∧ Edits [.sup] s t ∧ (t.line L).sup.hook ≠ .guard ∧
      (r.outcome = .none ∨ r.outcome = .breakBegun) ∧ r.opened = false := by
  cases f
  case noLoop =>
    refine ⟨s.beginBreak L .openInterval, { outcome := .breakBegun }, by simp [State.hookStep, h],
      Edits.refl.beginBreak (by decide) _, ?_, .inr rfl, rfl⟩
    unfold State.beginBreak
    dsimp only
    rw [State.changeHook_hook]
    decide
  case loop => exact ⟨s, {}, by simp [State.hookStep, h], .refl, by rw [h]; decide, .inl rfl, rfl⟩

/-- Both collection timers of an ACTIVE line without open train advance with a sample that brings neither to its limit and
is not high. -/
theorem State.takeSample_coll_of_active {x : Sample} (hh : (s.line L).sup.hook = .active)
    (hd : (s.line L).dec.trainOpen = false) (hc : (s.line L).noTimeout x.elapsed.val = true)
    (hx : sampleHigh x = false) :
    ((s.takeSample L x).1.line L).coll = (s.line L).coll.advance x.elapsed.val false := by
  have hb := s.beforeHook_line L x
  obtain ⟨t, r, e, k, hg, ho, hopen⟩ := State.hookStep_of_active (s := s.beforeHook L x) (L := L) x
    ((s.line L).conditioned x).filtered (by rw [hb]; exact hh)
  have l := k.line L
  have hdt : (t.line L).dec = (s.line L).dec := by rw [l.dec (by decide), hb]
  have hct : (t.line L).coll = (s.line L).coll := by rw [l.coll (by decide), hb]
  have hpt : (t.line L).profile = (s.line L).profile := by rw [l.profile, hb]
  have hnt : (t.line L).noTimeout x.elapsed.val = true := by
    unfold Line.noTimeout at hc ⊢
    rw [hct, hpt]
    exact hc
  rw [State.takeSample_of_taken x (by rw [hh]; rfl), State.hookOf, e]
  rw [(State.afterHook_quiet (by rw [hdt]; exact hd) ho hopen hnt hg hx).1, hct]

theorem Timer.advance_eq (t : Timer) (e : Nat) :
    t.advance e = if t.running then ⟨min 65535 (t.value + e), true⟩ else t := by
  cases hr : t.running <;> simp [Timer.advance, hr, Config.timerMax]

theorem sampleHigh_of_low {x : Sample} (ht : x.vt.natAbs ≤ 300) (hr : x.vr.natAbs ≤ 300) : sampleHigh x = false := by
  simp [sampleHigh, ht, hr]

end Collecting

/-- Settles O15: the link record first, and then the eight samples, of which each line takes its own. -/
theorem frameAtUpLink : Obligations.FrameAtUpLink := by
  refine ⟨?_, ?_, ?_⟩
  · intro s g bs fr hl hu hp
    by_cases he : ((fr.count : Int) - (s.link g).lastCount) % 16 = 0
    · refine ⟨_, exec_senseFrame_duplicate hl hu hp he, ?_⟩
      rw [if_pos he]
      simp
    · refine ⟨_, exec_senseFrame_accepted hl hu hp he, ?_⟩
      rw [if_neg he]
      refine ⟨fun k => ?_, fun K hK => ?_⟩
      · rw [State.settle_link, (Within.deliver ..).link, State.credited_link]
      · rw [State.settle_line]
        exact State.deliver_other (s.credited g fr) fr _ hK
  · intro s g bs h
    have e : s.senseFrame g bs = (s, false) := by
      rcases h with h | ⟨hu, hp⟩
      · exact State.senseFrame_of_not_live h
      · exact State.senseFrame_up_invalid hu hp
    exact ⟨_, exec_senseFrame .., by simp [e]⟩
  · intro s g bs fr p e hl hu hp he hne hh hd hc hto hvt hvr
    have hE : (fr.sample p (elapsedOf fr.count (s.link g).lastCount)).elapsed.val = e := by
      have := elapsedOf_val fr.count (s.link g).lastCount
      simp only [Frame.sample]
      omega
    refine ⟨_, exec_senseFrame_accepted hl hu hp (by omega), ?_⟩
    obtain ⟨u, hsu, ht⟩ := (s.credited g fr).deliver_line g fr (elapsedOf fr.count (s.link g).lastCount) p
    have hsu' : (s.line (lineAt g p)).sameButTime (u.line (lineAt g p)) := hsu
    have hnu : (u.line (lineAt g p)).noTimeout e = true := by
      unfold Line.noTimeout at hto ⊢
      rw [hsu'.coll, hsu'.profile]
      exact hto
    have key := State.takeSample_coll_of_active (s := u) (L := lineAt g p)
      (x := fr.sample p (elapsedOf fr.count (s.link g).lastCount)) (by rw [hsu'.sup]; exact hh)
      (by rw [hsu'.dec]; exact hd) (by rw [hE]; exact hnu)
      (sampleHigh_of_low hvt hvr)
    rw [State.settle_line, ht.coll, key, hsu'.coll, hE]
    simp only [Collection.advance, hc, and_self, if_true, Timer.advance_eq]

end Sys2Proof.Machine

/-! ## The link restored (R7, R8) -/

namespace Sys2Proof.Machine

section Restore

variable {s : State} {g : LinkNo} {fr : Frame} {bs : List Byte}

/-! ### The reseed at the eight lines of a group -/

/-- A reseed asked for at the lines of a group. -/
def State.reseedGroup (s : State) (g : LinkNo) : State := positions.foldl (State.reseedAt g) s

/-- A line with a reseed due. -/
def Line.reseedDue (ln : Line) : Line := { ln with cond := { ln.cond with reseed := true } }

theorem State.reseedAt_line (s : State) (g : LinkNo) (p : Fin 8) (K : LineNo) :
    (State.reseedAt g s p).line K = if K = lineAt g p then (s.line K).reseedDue else s.line K := by
  simp only [State.reseedAt, State.askReseed, State.setCond, State.line_setLine]
  split
  · subst K
    rfl
  · rfl

theorem State.foldl_reseedAt_line (ps : List (Fin 8)) (s : State) (K : LineNo) :
    (ps.foldl (State.reseedAt g) s).line K =
      if K ∈ ps.map (lineAt g) then (s.line K).reseedDue else s.line K := by
  induction ps generalizing s with
  | nil => rfl
  | cons p ps ih =>
    rw [List.foldl_cons, ih, State.reseedAt_line]
    by_cases hp : K = lineAt g p <;> by_cases hps : K ∈ ps.map (lineAt g) <;> simp [hp, hps, Line.reseedDue]

theorem State.reseedGroup_line (s : State) (g : LinkNo) (p : Fin 8) :
    (s.reseedGroup g).line (lineAt g p) = (s.line (lineAt g p)).reseedDue := by
  rw [State.reseedGroup, State.foldl_reseedAt_line, if_pos (List.mem_map_of_mem (mem_positions p))]

theorem State.reseedGroup_links (s : State) (g : LinkNo) : (s.reseedGroup g).links = s.links := by
  unfold State.reseedGroup
  induction positions generalizing s with
  | nil => rfl
  | cons p ps ih => exact ih _

theorem Stages.reseedGroup (s : State) (g : LinkNo) : Stages s (s.reseedGroup g) :=
  .foldl (State.reseedAt g) (fun _ _ => .of_journal rfl rfl rfl rfl rfl id id) positions s

/-! ### The restoration as its steps -/

/-- The link record at its restoration. -/
def State.linkUp (s : State) (g : LinkNo) : State :=
  s.setLink g { s.link g with up := true, missing := 0, firstSample := true, reportRestore := false }

/-- The restoration reported, if it is to be. -/
def State.reportUp (s : State) (g : LinkNo) (fr : Frame) : State :=
  if (s.link g).reportRestore then (s.linkUp g).stage none (.linkRestored g fr.count (s.link g).downSince)
  else s.linkUp g

theorem State.restoreLink_eq (s : State) (g : LinkNo) (fr : Frame) :
    s.restoreLink g fr = (((s.reportUp g fr).reseedGroup g).deliver g fr 0).setFirstSample g false := rfl

theorem State.setFirstSample_line (s : State) (g : LinkNo) (b : Bool) (K : LineNo) :
    (s.setFirstSample g b).line K = s.line K := rfl

theorem State.restoreLink_line (K : LineNo) :
    (s.restoreLink g fr).line K = (((s.reportUp g fr).reseedGroup g).deliver g fr 0).line K := by
  rw [State.restoreLink_eq, State.setFirstSample_line]

theorem State.reportUp_links : (s.reportUp g fr).links = (s.linkUp g).links := by
  unfold State.reportUp
  split
  · exact (Within.stage ..).links
  · rfl

theorem State.reportUp_line (K : LineNo) : (s.reportUp g fr).line K = s.line K := by
  unfold State.reportUp
  split
  · rw [State.stage_line]
    rfl
  · rfl

theorem State.restoreLink_link :
    (s.restoreLink g fr).link g =
      { s.link g with up := true, missing := 0, firstSample := false, reportRestore := false } := by
  have h : (((s.reportUp g fr).reseedGroup g).deliver g fr 0).link g = (s.linkUp g).link g := by
    unfold State.link
    rw [(Within.deliver ..).links, State.reseedGroup_links, State.reportUp_links]
  rw [State.restoreLink_eq, State.setFirstSample, h]
  simp [State.linkUp]

/-- What follows the report of a restoration stages behind it. -/
theorem Stages.afterReportUp (s : State) (g : LinkNo) (fr : Frame) :
    Stages (s.reportUp g fr) (s.restoreLink g fr) := by
  rw [State.restoreLink_eq]
  exact ((Stages.reseedGroup ..).trans (.deliver ..)).trans (.setLink ..)

/-- A line that takes samples is reseeded with the raw loop state of its triple (R8, R15). -/
theorem State.restoreLink_cond {p : Fin 8} (h : (s.line (lineAt g p)).sup.hook.discards = false) :
    { ((s.restoreLink g fr).line (lineAt g p)).cond with reseed := false } =
      { (s.line (lineAt g p)).cond.reseeded ((s.line (lineAt g p)).raw (fr.sample p 0).i) with
        reseed := false, vtPrev := (fr.sample p 0).vt, vrPrev := (fr.sample p 0).vr } := by
  have hl : ((s.reportUp g fr).reseedGroup g).line (lineAt g p) = (s.line (lineAt g p)).reseedDue := by
    rw [State.reseedGroup_line, State.reportUp_line]
  have k := State.deliver_line_cond (s := (s.reportUp g fr).reseedGroup g) (fr := fr) (e := 0)
    (show (Line.sup _).hook.discards = false by rw [hl]; exact h)
  rwa [hl, ← State.restoreLink_line] at k

/-- The delivery with elapsed 0 advances no supervision timer (R8). -/
theorem State.restoreLink_timer (p : Fin 8) :
    ((s.restoreLink g fr).line (lineAt g p)).sup.timer.value ≤ (s.line (lineAt g p)).sup.timer.value := by
  obtain ⟨u, hu, ht⟩ := ((s.reportUp g fr).reseedGroup g).deliver_line g fr 0 p
  have hl : (u.line (lineAt g p)).sup = (s.line (lineAt g p)).sup := by
    rw [hu.sup, State.reseedGroup_line, State.reportUp_line]
    rfl
  have k := u.takeSample_timer_of_elapsed_zero (lineAt g p) (fr.sample p 0) rfl
  rwa [← ht.sup, hl, ← State.restoreLink_line] at k

/-- LINK_RESTORED with the frame that completes the run of a DOWN link. -/
theorem exec_linkRestored_of_complete (hl : s.run.control.live = true) (hu : (s.link g).up = false)
    (hp : parseFrame bs = some fr) (hr : 4 ≤ runCountAfter (s.link g) fr.count) :
    exec (.linkRestored g bs) s =
      .next ((s.setLink g ((s.link g).run fr.count)).restoreLink g fr).settle := by
  have e := State.senseFrame_down_valid hl hu hp
  rw [State.runFrame_of_complete hr] at e
  change execLinkRestored g bs s = _
  unfold execLinkRestored
  simp only [e, if_true]

end Restore

/-- Settles O18: the link record, the report, the reseed and the delivery of a restoration, one lemma each. -/
theorem linkRestoredByFourthFrame : Obligations.LinkRestoredByFourthFrame := by
  intro s g bs fr p hl hu hp h3 hc
  refine ⟨_, exec_linkRestored_of_complete hl hu hp ((runCountAfter_ge ..).mpr ⟨h3, hc⟩), ?_⟩
  generalize hs : s.setLink g ((s.link g).run fr.count) = s1
  have hlink : s1.link g = (s.link g).run fr.count := by rw [← hs, State.link_setLink_self]
  have hline : s1.line (lineAt g p) = s.line (lineAt g p) := by rw [← hs]; rfl
  rw [State.settle_link, State.settle_line, State.restoreLink_link, hlink]
  refine ⟨rfl, rfl, rfl, rfl, rfl, rfl, fun hrep => ?_, fun hne hnt => ?_, ?_⟩
  · have up : s1.reportUp g fr = (s1.linkUp g).stage none (.linkRestored g fr.count (s.link g).downSince) := by
      unfold State.reportUp
      rw [hlink, if_pos (by exact hrep)]
      rfl
    have later := (Stages.afterReportUp s1 g fr).trans (.settle _)
    rw [up] at later
    subst hs
    exact stagedFirst_of_stage (u := (s.setLink g _).linkUp g) rfl rfl later
  · have hd : (s1.line (lineAt g p)).sup.hook.discards = false := by
      rw [hline, Bool.eq_false_iff]
      exact fun hd => ((Hook.discards_iff _).mp hd).elim hne hnt
    have k := State.restoreLink_cond (fr := fr) hd
    rw [hline] at k
    simp only [Conditioner.reseeded, Conditioner.mk.injEq] at k
    obtain ⟨hpa, hqa, hpb, hqb, _⟩ := k
    rw [hpa, hqa, hpb, hqb]
    exact ⟨rfl, rfl, rfl, rfl⟩
  · rw [← hline]
    exact State.restoreLink_timer p

end Sys2Proof.Machine

/-! ## The release of a line (R23, R24, R28, R70) -/

namespace Sys2Proof.Machine

section Served

variable {s t : State} {L : LineNo}

/-! ### A release leaves the line without receiver and without queue place -/

/-- A receiver is attached to a line. -/
def Receiver.serves (rx : Receiver) (L : LineNo) : Prop := rx.state = .attached ∧ rx.line = some L

theorem mem_allRx (r : RxNo) : r ∈ allRx := by revert r; decide

theorem State.receiverOf_eq_none_iff : s.receiverOf L = none ↔ ∀ r, ¬ (s.receiver r).serves L := by
  simp [State.receiverOf, Receiver.serves, mem_allRx]

theorem State.serves_of_receiverOf {r : RxNo} (h : s.receiverOf L = some r) : (s.receiver r).serves L := by
  simpa [Receiver.serves] using List.find?_some h

theorem State.served_eq_false_iff :
    s.served L = false ↔ (∀ r, ¬ (s.receiver r).serves L) ∧ ∀ e ∈ s.pool.queue, e.line ≠ L := by
  simp [State.served, ← State.receiverOf_eq_none_iff, State.queued]

theorem State.poolSound_of_pool (h : t.pool = s.pool) (hs : s.poolSound) : t.poolSound := by
  have hr : ∀ r, t.receiver r = s.receiver r := fun r => by unfold State.receiver; rw [h]
  simpa only [State.poolSound, hr, h] using hs

@[simp] theorem State.markTimed_served (s : State) (L K : LineNo) : (s.markTimed L).served K = s.served K :=
  State.served_of_pool rfl

/-- A receiver handed over goes to a waiting line, so it goes to no line without a place (R70). -/
theorem State.handOver_not_served (h : s.served L = false) (r : RxNo) : (s.handOver r).served L = false := by
  unfold State.handOver
  split
  · exact h
  · rename_i e q hq
    obtain ⟨hrx, hqueue⟩ := State.served_eq_false_iff.mp h
    rw [hq] at hqueue
    rw [State.attach, State.markTimed_served, State.served_eq_false_iff]
    refine ⟨fun k hk => ?_, fun x hx => hqueue x (List.mem_cons_of_mem e hx)⟩
    rw [State.receiver_setReceiver] at hk
    split at hk
    · exact hqueue e List.mem_cons_self (Option.some.inj hk.2)
    · exact hrx k hk

/-- The receiver of a line detached from it, the line is served by none, as it had no other and no place (R70). -/
theorem State.detach_not_served {r : RxNo} (hs : s.poolSound) (hr : (s.receiver r).serves L) :
    (s.detach r L).served L = false := by
  obtain ⟨hone, _, hplace⟩ := hs
  have h : ((s.setReceiver r (s.receiver r).detached).markTimed L).served L = false := by
    rw [State.markTimed_served, State.served_eq_false_iff]
    refine ⟨fun k hk => ?_, fun e he hL => hplace r e he hr.1 (hL ▸ hr.2)⟩
    rw [State.receiver_setReceiver] at hk
    split at hk
    · cases hk.2
    · rename_i hkr
      exact hkr (hone k r L hk.1 hk.2 hr.1 hr.2)
  unfold State.detach
  dsimp only
  split
  · exact h
  · exact State.handOver_not_served h r

theorem State.release_not_served (hs : s.poolSound) : (s.release L).served L = false := by
  unfold State.release
  split
  · rename_i r hr
    exact State.detach_not_served hs (State.serves_of_receiverOf hr)
  · rename_i hr
    have hrx := State.receiverOf_eq_none_iff.mp hr
    split
    · rw [State.markTimed_served, State.served_eq_false_iff]
      exact ⟨hrx, fun e he => by simpa using (List.mem_filter.mp he).2⟩
    · rename_i hq
      simp [State.served, hr, hq]

end Served

section Release

variable {s : State} {L : LineNo}

/-! ### What a release leaves of the line -/

theorem State.dropTrain_trainOpen (s : State) (L : LineNo) : ((s.dropTrain L).line L).dec.trainOpen = false := by
  unfold State.dropTrain
  split
  · simp [PulseDecoder.emptied]
  · exact Bool.eq_false_iff.mpr ‹_›

theorem State.abandon_coll (s : State) (L : LineNo) : ((s.abandon L).line L).coll = (s.line L).coll.abandoned := by
  unfold State.abandon
  dsimp only
  split <;> simp

theorem State.changeHook_timer (s : State) (L : LineNo) (h : Hook) :
    ((s.changeHook L h).line L).sup.timer = (s.line L).sup.timer := by
  unfold State.changeHook
  split <;> simp

theorem State.teardown_coll (s : State) (L : LineNo) : ((s.teardown L).line L).coll = (s.line L).coll.abandoned := by
  have k : Edits [.dec, .pool] s ((s.dropTrain L).release L) := (Edits.refl.dropTrain (by decide)).release (by decide) L
  rw [State.teardown, State.abandon_coll, (k.line L).coll (by decide)]

theorem State.teardown_trainOpen (s : State) (L : LineNo) : ((s.teardown L).line L).dec.trainOpen = false := by
  have k : Edits [.coll, .pool] (s.dropTrain L) (s.teardown L) :=
    (Edits.refl.release (by decide) L).abandon (by decide)
  rw [(k.line L).dec (by decide), State.dropTrain_trainOpen]

/-- A teardown leaves the line without receiver and without queue place (R23). -/
theorem State.teardown_not_served (hs : s.poolSound) : (s.teardown L).served L = false := by
  have hd : (s.dropTrain L).pool = s.pool := (Edits.refl (ps := [.dec])).dropTrain (by decide) |>.pool (by decide)
  have ha : (s.teardown L).pool = ((s.dropTrain L).release L).pool :=
    (Edits.refl (ps := [.coll])).abandon (by decide) |>.pool (by decide)
  rw [State.served_of_pool ha]
  exact State.release_not_served (State.poolSound_of_pool hd hs)

/-- The state of a release before its record is staged. -/
def State.releasedLine (s : State) (L : LineNo) : State := ((s.teardown L).stopTimer L).changeHook L .onHook

theorem State.releaseLine_eq (s : State) (L : LineNo) (parked : Bool) :
    s.releaseLine L parked = (s.releasedLine L).stage (some L)
      (.onHook .release parked (s.line L).coll.uncompleted (s.line L).sup.breakStart) := rfl

theorem Edits.releasedLine (s : State) (L : LineNo) : Edits [.sup, .dec, .coll, .pool] s (s.releasedLine L) :=
  ((Edits.refl.teardown (by decide) (by decide) (by decide)).stopTimer (by decide)).changeHook (by decide) _

theorem Near.releasedLine (s : State) (L : LineNo) : Near L s (s.releasedLine L) :=
  (Near.refl L s).teardown.stopTimer.changeHook _

/-- The line after a release: ON_HOOK, its timer stopped, no train, the collection abandoned; and of a sound pool it
holds nothing (R23, R24). -/
theorem State.releasedLine_line (s : State) (L : LineNo) :
    ((s.releasedLine L).line L).sup.hook = .onHook ∧ ((s.releasedLine L).line L).sup.timer.running = false ∧
    ((s.releasedLine L).line L).dec.trainOpen = false ∧
    ((s.releasedLine L).line L).coll = (s.line L).coll.abandoned ∧
    (s.poolSound → (s.releasedLine L).served L = false) := by
  have k : Edits [.sup] (s.teardown L) (s.releasedLine L) := (Edits.refl.stopTimer (by decide)).changeHook (by decide) _
  refine ⟨?_, ?_, ?_, ?_, fun hs => ?_⟩
  · rw [State.releasedLine, State.changeHook_hook]
  · rw [State.releasedLine, State.changeHook_timer]
    simp [State.stopTimer, Timer.stop]
  · rw [(k.line L).dec (by decide), State.teardown_trainOpen]
  · rw [(k.line L).coll (by decide), State.teardown_coll]
  · rw [State.served_of_pool (k.pool (by decide)), State.teardown_not_served hs]

/-- The record of a release is the first one staged (R24, R41). -/
theorem State.stagedFirst_of_releaseLine {u t : State} {parked : Bool} (hq : u.journal.queue = s.journal.queue)
    (hd : u.journal.dropped = s.journal.dropped) (h : Stages (u.releaseLine L parked) t) :
    s.stagedFirst t u.time (some L)
      (.onHook .release parked (u.line L).coll.uncompleted (u.line L).sup.breakStart) := by
  have hj := (Edits.releasedLine u L).journal (by decide)
  rw [State.releaseLine_eq] at h
  rw [← (Near.releasedLine u L).within.time]
  exact stagedFirst_of_stage (by rw [hj, hq]) (by rw [hj, hd]) h

/-! ### The sample that releases -/

/-- What the Supervision Engine reports of a release (R24, R28). -/
def releaseResult (parked : Bool) : SupResult := if parked then { parkedRelease := true } else { release := true }

/-- A break that has reached the release threshold releases the line, whatever the filtered state (R24, R28). -/
theorem State.hookStep_of_released (x : Sample) (f : LoopState) (parked : Bool)
    (hh : (s.line L).sup.hook = if parked then .parkedOpen else .openInterval)
    (ht : (s.line L).sup.timer.reached ((s.line L).profile.flashMax + 1) = true) :
    s.hookStep L x f = (s.releaseLine L parked, releaseResult parked) := by
  cases parked
  case false =>
    rw [if_neg Bool.false_ne_true] at hh
    simp [State.hookStep, hh, ht, releaseResult]
  case true =>
    rw [if_pos rfl] at hh
    simp [State.hookStep, hh, ht, releaseResult]

theorem Timer.advance_reached {t : Timer} {e limit : Nat} (hr : t.running = true)
    (h : limit ≤ min 65535 (t.value + e)) : (t.advance e).reached limit = true := by
  simpa [Timer.advance_eq, hr, Timer.reached] using h

/-- What a sample leaves that releases its line: the release, and nothing more of the line and its place. -/
theorem State.takeSample_of_released {x : Sample} {parked : Bool}
    (hh : (s.line L).sup.hook = if parked then .parkedOpen else .openInterval)
    (hr : (s.line L).sup.timer.running = true)
    (ht : (s.line L).profile.flashMax + 1 ≤ min 65535 ((s.line L).sup.timer.value + x.elapsed.val)) :
    s.takeSample L x =
      ((s.beforeHook L x).releaseLine L parked).afterHook L x ((s.line L).conditioned x) (s.served L)
        (releaseResult parked) := by
  have hb := s.beforeHook_line L x
  have hd : (s.line L).sup.hook.discards = false := by
    rw [hh]
    cases parked <;> rfl
  have e : s.hookOf L x = ((s.beforeHook L x).releaseLine L parked, releaseResult parked) :=
    State.hookStep_of_released x _ parked (by rw [hb]; exact hh) (by rw [hb]; exact Timer.advance_reached hr ht)
  rw [State.takeSample_of_taken x hd, e]

/-- The rows RELEASE and PARKED_RELEASE are the sample, if the Supervision Engine reports the release. -/
theorem exec_release_of_reported {x : Sample} {parked : Bool} (ha : s.sampleArrives L x = true)
    (h : (s.takeSample L x).2.sup = releaseResult parked) :
    exec (if parked then .parkedRelease L x else .release L x) s = .next (s.takeSample L x).1.settle := by
  cases parked
  case false =>
    change s.sampleRow L x (fun r => r.sup.release) = _
    simp [State.sampleRow, ha, h, releaseResult]
  case true =>
    change s.sampleRow L x (fun r => r.sup.parkedRelease) = _
    simp [State.sampleRow, ha, h, releaseResult]

end Release

/-- Settles O20: the sample is the release, which the later blocks of the sample leave alone. -/
theorem releaseEndsTheCall : Obligations.ReleaseEndsTheCall := by
  intro s L x parked ha hh hr ht hx
  have e := State.takeSample_of_released hh hr ht
  have hsup : (s.takeSample L x).2.sup = releaseResult parked := by
    rw [e]
    rfl
  refine ⟨_, exec_release_of_reported ha hsup, ?_⟩
  have hb := s.beforeHook_line L x
  generalize hu : s.beforeHook L x = u at e hb
  have hpool : u.pool = s.pool := by subst hu; rfl
  obtain ⟨hhook, htimer, hdec, hcoll, hserved⟩ := u.releasedLine_line L
  have hl : (u.releaseLine L parked).line L = (u.releasedLine L).line L := by
    rw [State.releaseLine_eq, State.stage_line]
  obtain ⟨qcoll, qdec, qhook, qtimer, qpool⟩ := State.afterHook_quiet (s := u.releaseLine L parked) (L := L)
    (x := x) (c := (s.line L).conditioned x) (w := s.served L) (r := releaseResult parked)
    (by rw [hl, hdec]) (by cases parked <;> exact .inl rfl) (by cases parked <;> rfl)
    (by simp [Line.noTimeout, hl, hcoll, Collection.abandoned]) (by rw [hl, hhook]; decide) hx
  rw [hl, hcoll] at qcoll
  rw [hl] at qdec qhook qtimer
  rw [State.settle_line, e, qcoll, qdec, qhook, qtimer]
  refine ⟨hhook, htimer, hdec, rfl, rfl, rfl, rfl, rfl, ?_, fun hs => ?_⟩
  · have later := (Edits.afterHook (u.releaseLine L parked) L x ((s.line L).conditioned x) (s.served L)
      (releaseResult parked)).stages.trans (.settle _)
    have k := State.stagedFirst_of_releaseLine (s := s) (by rw [← hu]; rfl) (by rw [← hu]; rfl) later
    rw [hb, show u.time = s.time by rw [← hu]; rfl] at k
    exact k
  · have hn : (u.releaseLine L parked).served L = false := by
      rw [State.releaseLine_eq, State.served_of_pool (State.stage_pool ..)]
      exact hserved (State.poolSound_of_pool hpool hs)
    rw [State.served_of_pool (State.settle_pool _), State.served_of_pool (qpool hn)]
    exact hn

end Sys2Proof.Machine

/-! ## What every step maintains (R38, R66 to R70, R80, R90, R111, R158, R159) -/

namespace Sys2Proof.Machine

/-! ### The bounds by the record that holds them -/

/-- B, T_on and T_off within the bounds of R38. -/
def Supervision.inBounds (x : Supervision) : Prop := x.b ≤ 16368 ∧ 1 ≤ x.tOff ∧ x.tOff < x.tOn ∧ x.tOn ≤ 1000

/-- A digit string of at most 24 symbols, and of fewer while COLLECTING (R90). -/
def Collection.inBounds (c : Collection) : Prop :=
  c.string.length ≤ 24 ∧ (c.state = .collecting → c.string.length < 24)

theorem Collection.finished_inBounds {c : Collection} (h : c.string.length ≤ 24) : c.finished.inBounds :=
  ⟨h, fun hc => by cases hc⟩

theorem Collection.advance_inBounds {c : Collection} (h : c.inBounds) (e : Nat) (o : Bool) :
    (c.advance e o).inBounds := by
  unfold Collection.advance
  split <;> exact h

/-- F and H in their ranges (R134). -/
def Profile.inBounds (p : Profile) : Prop := 40 ≤ p.f ∧ 5 ≤ p.h

theorem Line.sound_iff (ln : Line) :
    ln.sound = true ↔ ln.sup.inBounds ∧ ln.fault.a16 ≤ 32736 ∧ ln.coll.inBounds ∧ ln.profile.inBounds := by
  by_cases hc : ln.coll.state = .collecting <;>
    simp [Line.sound, Supervision.inBounds, Collection.inBounds, Profile.inBounds, hc, and_assoc]

theorem Receiver.sound_iff (rx : Receiver) :
    rx.sound = true ↔ (rx.state = .attached ↔ rx.line ≠ none) ∧ rx.accepted ≤ 255 := by
  simp only [Receiver.sound, Bool.and_eq_true, decide_eq_true_eq]

theorem Journal.sound_iff (j : Journal) : j.sound = true ↔ j.queue.length ≤ 32 ∧ j.dropped ≤ 65535 := by
  simp [Journal.sound]

/-- A line whose bounded records are those of a sound line. -/
theorem Line.sound_of_parts {a b : Line} (hb : b.sup.b = a.sup.b) (hon : b.sup.tOn = a.sup.tOn)
    (hoff : b.sup.tOff = a.sup.tOff) (hf : b.fault.a16 = a.fault.a16) (hc : b.coll = a.coll)
    (hp : b.profile = a.profile) (h : a.sound = true) : b.sound = true := by
  rw [Line.sound_iff] at *
  rwa [Supervision.inBounds, hb, hon, hoff, hf, hc, hp]

theorem Journal.sound_of_eq {i j : Journal} (hq : j.queue = i.queue) (hd : j.dropped = i.dropped)
    (h : i.sound = true) : j.sound = true := by
  rw [Journal.sound_iff] at *
  rwa [hq, hd]

theorem Profile.withBaseline_inBounds {p : Profile} (hp : p.inBounds) (x : Supervision) {b : Nat} (hb : b ≤ 16368)
    (seeded : Bool) : (x.withBaseline p b seeded).inBounds := by
  obtain ⟨hf, hh⟩ := hp
  simp only [Supervision.inBounds, Supervision.withBaseline, tOffOf, tOnOf, Config.tOnMax]
  omega

theorem clampInt_toNat_le (hi : Nat) (x : Int) : (clampInt 0 hi x).toNat ≤ hi := by
  unfold clampInt
  split
  · exact Nat.zero_le _
  · split <;> omega

theorem baselineAfter_le (x : Supervision) (k : Nat) (i : Int) : baselineAfter x k i ≤ 16368 := by
  unfold baselineAfter
  split
  · exact clampInt_toNat_le 16368 _
  · exact Nat.min_le_left ..

theorem a16After_le (a d : Nat) : a16After a d ≤ 32736 := clampInt_toNat_le 32736 _

theorem clamp_ge (lo hi x : Nat) (h : lo ≤ hi) : lo ≤ clamp lo hi x := by
  unfold clamp
  split
  · exact Nat.le_refl _
  · split <;> omega

/-- The repairs of R135 touch neither F nor H. -/
theorem parseProfile_f_h (bs : List Byte) :
    (parseProfile bs).f = clamp 40 300 (rd16 bs 0x06) ∧ (parseProfile bs).h = clamp 5 100 (rd8 bs 0x08) := by
  have h1 : ∀ p, (repairFlashMin p).f = p.f ∧ (repairFlashMin p).h = p.h := fun p => by
    unfold repairFlashMin; split <;> exact ⟨rfl, rfl⟩
  have h2 : ∀ p, (repairFlashMax p).f = p.f ∧ (repairFlashMax p).h = p.h := fun p => by
    unfold repairFlashMax; split <;> exact ⟨rfl, rfl⟩
  have h3 : ∀ p, (repairBreakMin p).f = p.f ∧ (repairBreakMin p).h = p.h := fun p => by
    unfold repairBreakMin; split <;> exact ⟨rfl, rfl⟩
  have h4 : ∀ p, (repairGMax p).f = p.f ∧ (repairGMax p).h = p.h := fun p => by
    unfold repairGMax; split <;> exact ⟨rfl, rfl⟩
  have h5 : ∀ p, (repairRatioMax p).f = p.f ∧ (repairRatioMax p).h = p.h := fun p => by
    unfold repairRatioMax; split <;> exact ⟨rfl, rfl⟩
  unfold parseProfile
  rw [(h5 _).1, (h4 _).1, (h3 _).1, (h2 _).1, (h1 _).1, (h5 _).2, (h4 _).2, (h3 _).2, (h2 _).2, (h1 _).2]
  exact ⟨rfl, rfl⟩

theorem parseProfile_inBounds (bs : List Byte) : (parseProfile bs).inBounds := by
  obtain ⟨hf, hh⟩ := parseProfile_f_h bs
  rw [Profile.inBounds, hf, hh]
  exact ⟨clamp_ge 40 300 _ (by decide), clamp_ge 5 100 _ (by decide)⟩

/-- A string that none of the four tests completes is short of its bound (R92). -/
theorem Plan.length_lt_of_check_eq_none {p : Plan} {str : List DigitEntry} (h : p.check str = none) :
    str.length < 24 := by
  unfold Plan.check at h
  by_contra hlt
  have hfull : Config.stringMax ≤ str.length := Nat.not_lt.mp hlt
  rw [if_pos hfull] at h
  split at h
  · cases h
  · split at h
    · cases h
    · split at h <;> cases h

theorem setEntry_lines (q : List QueueEntry) {L : LineNo} {x : QueueEntry} (hx : x.line = L) :
    (setEntry q L x).map QueueEntry.line = q.map QueueEntry.line := by
  unfold setEntry
  rw [List.map_map]
  refine List.map_congr_left fun e _ => ?_
  by_cases he : e.line = L <;> simp [he, hx]

theorem State.lines_ext {s t : State} (h : ∀ K, t.line K = s.line K) : t.lines = s.lines :=
  Vector.ext fun i hi => h ⟨i, hi⟩

/-- Staging keeps the queue and the dropped count within their bounds (R158, R159). -/
theorem State.stage_journal_sound {s : State} {l : Option LineNo} {b : RecordBody} {u : Bool}
    (h : s.journal.sound = true) : (s.stage l b u).journal.sound = true := by
  rw [Journal.sound_iff] at *
  refine ⟨(Within.stage s l b u).bounded h.1, ?_⟩
  unfold State.stage
  split
  · rw [(s.append_drops l b u).1]
    exact h.2
  · exact Nat.min_le_left ..

theorem State.line_markTimed (s : State) (L K : LineNo) :
    (s.markTimed L).line K =
      if K = L then { s.line L with marks := { (s.line L).marks with lastChange := s.time } } else s.line K :=
  State.line_setMarks ..

@[simp] theorem State.markTimed_pool (s : State) (L : LineNo) : (s.markTimed L).pool = s.pool := rfl

theorem Journal.stopAbsolute_frame (j : Journal) (n : Nat) :
    (j.stopAbsolute n).queue = j.queue ∧ (j.stopAbsolute n).dropped = j.dropped := by
  unfold Journal.stopAbsolute
  split <;> exact ⟨rfl, rfl⟩

theorem Journal.dropRoomRead_frame (j : Journal) (n : Nat) :
    (j.dropRoomRead n).queue = j.queue ∧ (j.dropRoomRead n).dropped = j.dropped := by
  rcases j.dropRoomRead_cases n with e | ⟨_, _, _, _, _, e⟩ <;> rw [e] <;> exact ⟨rfl, rfl⟩

/-! ### Properties that the shared operations maintain -/

/-- A property of the lines, the pool and the bounds of the Journal Unit that the operations on these records maintain:
then every operation and every step does (`Maintained.step`). A line may be written with bounds kept, a receiver with
its state and line kept, the wait queue with its lines kept. -/
structure Maintained (P : State → Prop) : Prop where
  rest : ∀ {s t : State}, P s → t.lines = s.lines → t.pool = s.pool →
    (s.journal.sound = true → t.journal.sound = true) → P t
  setLine : ∀ {s : State} (L : LineNo) (x : Line), P s → ((s.line L).sound = true → x.sound = true) →
    P (s.setLine L x)
  setReceiver : ∀ {s : State} (r : RxNo) (x : Receiver), P s → x.state = (s.receiver r).state →
    x.line = (s.receiver r).line → ((s.receiver r).accepted ≤ 255 → x.accepted ≤ 255) → P (s.setReceiver r x)
  setQueue : ∀ {s : State} (q : List QueueEntry), P s →
    q.map QueueEntry.line = s.pool.queue.map QueueEntry.line → P (s.setQueue q)
  request : ∀ {s : State} (L : LineNo), P s → P (s.request L)
  release : ∀ {s : State} (L : LineNo), P s → P (s.release L)
  changeEnabled : ∀ {s : State} (n : Nat), P s → P (s.changeEnabled n)
  lostHighway : ∀ {s : State}, P s → P (s.mapReceivers Receiver.lostHighway)
  beginEntries : ∀ {s : State}, P s → P s.beginEntries
  enterRunning : ∀ {s : State}, P s → P s.enterRunning
  enterStopped : ∀ {s : State}, P s → P s.enterStopped
  reset : P State.reset

/-- A fold of steps that each keep a property. -/
theorem State.foldl_keeps {α : Type} {P : State → Prop} {f : State → α → State}
    (hf : ∀ {u : State} (a : α), P u → P (f u a)) : ∀ (xs : List α) {u : State}, P u → P (xs.foldl f u)
  | [], _, h => h
  | x :: xs, _, h => State.foldl_keeps hf xs (hf x h)

/-- A row that acts only if its event comes about. -/
theorem State.ite_keeps {P : State → Prop} {s t : State} (c : Prop) [Decidable c] (h : P s) (ht : P t) :
    P (if c then t else s) := by
  split
  · exact ht
  · exact h

section Maintained

variable {P : State → Prop} (m : Maintained P) {s t : State} {L : LineNo}

include m

/-! ### The Journal Unit's records and the marks of an entry -/

/-- A change of anything but the lines, the pool, the staging queue and the dropped count. -/
theorem Maintained.same (h : P s) (hl : t.lines = s.lines) (hp : t.pool = s.pool)
    (hq : t.journal.queue = s.journal.queue) (hd : t.journal.dropped = s.journal.dropped) : P t :=
  m.rest h hl hp (Journal.sound_of_eq hq hd)

theorem Maintained.stage (h : P s) (l : Option LineNo) (b : RecordBody) (u : Bool) : P (s.stage l b u) :=
  m.rest h (by simp) (by simp) State.stage_journal_sound

theorem Maintained.markUntimed (h : P s) (K : LineNo) : P (s.markUntimed K) := m.same h rfl rfl rfl rfl

theorem Maintained.setMarks (h : P s) (x : EntryMarks) : P (s.setMarks L x) := m.setLine L _ h fun hl => hl

theorem Maintained.markTimed (h : P s) (K : LineNo) : P (s.markTimed K) := m.markUntimed (m.setMarks h _) K

theorem Maintained.settle (h : P s) : P s.settle := m.same h (by simp) (by simp) (by simp) (by simp)

theorem Maintained.setTest (h : P s) (x : TestEngine) : P (s.setTest x) := m.same h rfl rfl rfl rfl

theorem Maintained.setExecutor (h : P s) (x : Executor) : P (s.setExecutor x) := m.same h rfl rfl rfl rfl

theorem Maintained.atPhase (h : P s) (x : ExecPhase) : P (s.atPhase x) := m.setExecutor h _

theorem Maintained.setRun (h : P s) (x : RunControl) : P (s.setRun x) := m.same h rfl rfl rfl rfl

theorem Maintained.raiseCause (h : P s) (c : Cause) : P (s.raiseCause c) := m.setRun h _

theorem Maintained.setHighway (h : P s) (x : Highway) : P (s.setHighway x) := m.same h rfl rfl rfl rfl

theorem Maintained.setPlan (h : P s) (x : Plan) : P { s with plan := x } := m.same h rfl rfl rfl rfl

theorem Maintained.setArea (h : P s) (x : Geometry) (y : Settings) : P { s with geometry := x, settings := y } :=
  m.same h rfl rfl rfl rfl

theorem Maintained.withPending (h : P s) (q : List Instr) : P (s.withPending q) := m.same h rfl rfl rfl rfl

theorem Maintained.setLink (h : P s) (g : LinkNo) (x : Link) : P (s.setLink g x) := m.same h rfl rfl rfl rfl

/-- A step of the Journal Unit that neither stages nor drops. -/
theorem Maintained.setJournal (h : P s) (x : Journal) (hq : x.queue = s.journal.queue := by rfl)
    (hd : x.dropped = s.journal.dropped := by rfl) : P (s.setJournal x) := m.same h rfl rfl hq hd

/-- Edits of the supervision record but for the baseline, of the decoder, and staging. -/
theorem Maintained.edits (h : P s) (e : Edits [.sup, .dec, .stage] s t) : P t := by
  induction e with
  | refl => exact h
  | setLine _ L x k ih =>
    obtain ⟨hb, _, hon, hoff⟩ := k.base (by decide)
    exact m.setLine L x ih (Line.sound_of_parts hb hon hoff (by rw [k.fault (by decide)]) (k.coll (by decide)) k.profile)
  | setReceiver _ hp => exact absurd hp (by decide)
  | setQueue _ hp => exact absurd hp (by decide)
  | markUntimed _ K ih => exact m.markUntimed ih K
  | stage _ _ l b u ih => exact m.stage ih l b u

theorem Maintained.changeHook (h : P s) (x : Hook) : P (s.changeHook L x) :=
  m.edits h (Edits.refl.changeHook (by decide) x)

theorem Maintained.askReseed (h : P s) : P (s.askReseed L) := m.edits h Edits.refl.askReseed

theorem Maintained.stopTimer (h : P s) : P (s.stopTimer L) := m.edits h (Edits.refl.stopTimer (by decide))

theorem Maintained.clearStartMark (h : P s) : P (s.clearStartMark L) :=
  m.edits h (Edits.refl.clearStartMark (by decide))

theorem Maintained.dropTrain (h : P s) : P (s.dropTrain L) := m.edits h (Edits.refl.dropTrain (by decide))

theorem Maintained.returnLine (h : P s) : P (s.returnLine L) := m.askReseed (m.changeHook h _)

/-- A supervision record written with the baseline and the thresholds as they are. -/
theorem Maintained.setSup (h : P s) (x : Supervision) (hb : x.b = (s.line L).sup.b := by rfl)
    (hon : x.tOn = (s.line L).sup.tOn := by rfl) (hoff : x.tOff = (s.line L).sup.tOff := by rfl) : P (s.setSup L x) :=
  m.setLine L _ h (Line.sound_of_parts hb hon hoff rfl rfl rfl)

/-! ### The Digit Collector and the pool -/

theorem Maintained.setColl (h : P s) (x : Collection) (hx : (s.line L).coll.inBounds → x.inBounds) :
    P (s.setColl L x) := by
  refine m.setLine L _ h fun hl => ?_
  rw [Line.sound_iff] at *
  obtain ⟨hs, hf, hc, hp⟩ := hl
  exact ⟨hs, hf, hx hc, hp⟩

theorem Maintained.openCollection (h : P s) (b : Bool) : P (s.openCollection L b) :=
  m.markTimed (m.setColl h _ fun _ => ⟨Nat.zero_le _, fun _ => by simp⟩) L

theorem Maintained.abandon (h : P s) : P (s.abandon L) := by
  have h1 : P (s.setColl L (s.line L).coll.abandoned) :=
    m.setColl h _ fun _ => ⟨Nat.zero_le _, fun hc => by cases hc⟩
  unfold State.abandon
  dsimp only
  split
  · exact h1
  · exact m.markTimed h1 L

theorem Maintained.finishCollection (h : P s) :
    P (((s.setColl L (s.line L).coll.finished).markTimed L).release L) :=
  m.release L (m.markTimed (m.setColl h _ fun hc => Collection.finished_inBounds hc.1) L)

theorem Maintained.complete (h : P s) (r : NumberReason) (e : Option Nat) (u : Bool) : P (s.complete L r e u) :=
  m.finishCollection (m.stage h _ _ u)

theorem Maintained.noDigits (h : P s) : P (s.noDigits L) := m.finishCollection (m.stage h _ _ false)

/-- A completion needs only that the string is within its bound: it stands DONE in the end (R90, R94). -/
theorem Maintained.complete_of_length (h : P s) {c : Collection}
    (hc : (s.line L).coll.inBounds → c.string.length ≤ 24) (r : NumberReason) (e : Option Nat) (u : Bool) :
    P (((s.setColl L c).markTimed L).complete L r e u) := by
  have h1 : P ((s.markTimed L).setColl L c.finished) :=
    m.setColl (m.markTimed h L) _ fun hs => Collection.finished_inBounds (hc (by simpa using hs))
  refine m.release L (m.markTimed ?_ L)
  refine m.rest h1 (State.lines_ext fun K => ?_) (by simp) fun hj => ?_
  · by_cases hK : K = L <;> simp [hK, State.line_setColl, State.line_markTimed]
  · rw [State.setColl_journal]
    exact State.stage_journal_sound (Journal.sound_of_eq rfl rfl hj)

theorem Maintained.appendSymbol (h : P s) (d : Digit) (hc : (s.line L).coll.state = .collecting) :
    P (s.appendSymbol L d) := by
  generalize h0 : (if (s.line L).coll.string = [] then
    s.stage (some L) (.firstDigit (d.report (s.line L).coll.resumed none)) else s) = s1
  have hl : s1.line L = s.line L := by
    rw [← h0]
    split <;> simp
  have h1 : P s1 := by
    rw [← h0]
    split
    · exact m.stage h ..
    · exact h
  unfold State.appendSymbol
  simp only [h0, hl]
  split
  · refine m.complete_of_length h1 (fun hs => ?_) ..
    rw [hl] at hs
    simpa using hs.2 hc
  · rename_i hn
    refine m.markTimed (m.setColl h1 _ fun _ => ?_) L
    have := Plan.length_lt_of_check_eq_none hn
    exact ⟨Nat.le_of_lt this, fun _ => this⟩

theorem Maintained.takeSymbol (h : P s) (d : Digit) : P (s.takeSymbol L d) := by
  unfold State.takeSymbol
  split
  · exact m.appendSymbol h d ‹_›
  · exact m.stage h ..
  · exact h

theorem Maintained.collTimeouts (h : P s) (o d : Bool) : P (s.collTimeouts L o d).1 := by
  unfold State.collTimeouts
  dsimp only
  repeat' split
  · exact m.noDigits h
  · exact m.complete h ..
  · exact h

theorem Maintained.collectorStep (h : P s) (e : Nat) (o : Bool) (d : Option Digit) :
    P (s.collectorStep L e o d).1 := by
  have h1 : P (s.setColl L ((s.line L).coll.advance e o)) := m.setColl h _ fun hc => Collection.advance_inBounds hc e o
  unfold State.collectorStep
  dsimp only
  split
  · exact m.collTimeouts (m.takeSymbol h1 _) ..
  · exact m.collTimeouts h1 ..

theorem Maintained.requestIfTone (h : P s) : P (s.requestIfTone L) := by
  unfold State.requestIfTone
  split
  · exact m.request L h
  · exact h

theorem Maintained.windowStep (h : P s) (r : RxNo) (e : Nat) : P (s.windowStep L r e).1 := by
  have h1 : ∀ x, P (s.setReceiver r { s.receiver r with window := x }) := fun _ => m.setReceiver r _ h rfl rfl id
  unfold State.windowStep
  dsimp only
  split
  · exact m.release L (m.stage (h1 _) ..)
  · exact h1 _

theorem Maintained.waitStep (h : P s) {q : QueueEntry} (hq : q.line = L) (e : Nat) : P (s.waitStep L q e).1 := by
  have h1 : ∀ x : QueueEntry, x.line = L → P (s.setQueue (setEntry s.pool.queue L x)) := fun x hx =>
    m.setQueue _ h (setEntry_lines _ hx)
  unfold State.waitStep
  dsimp only
  split
  · exact m.stage (h1 { q with wait := _, noticed := true } hq) ..
  · exact h1 { q with wait := _ } hq

theorem Maintained.poolStep (h : P s) (e : Nat) (b : Bool) : P (s.poolStep L e b).1 := by
  unfold State.poolStep
  split
  · exact h
  · split
    · exact m.windowStep h ..
    · split
      · rename_i hq
        exact m.waitStep h (by simpa using List.find?_some hq) e
      · exact h

/-! ### The Supervision Engine -/

theorem Maintained.setBaseline (h : P s) {b : Nat} (hb : (s.line L).sup.inBounds → b ≤ 16368) (x : Bool) :
    P (s.setBaseline L b x) := by
  have h1 : P (s.setSup L ((s.line L).sup.withBaseline (s.line L).profile b x)) := by
    refine m.setLine L _ h fun hl => ?_
    rw [Line.sound_iff] at *
    obtain ⟨hs, hf, hc, hp⟩ := hl
    exact ⟨Profile.withBaseline_inBounds hp _ (hb hs) x, hf, hc, hp⟩
  unfold State.setBaseline
  dsimp only
  split
  · exact h1
  · exact m.markUntimed h1 L

theorem Maintained.clearBaseline (h : P s) : P (s.clearBaseline L) := m.setBaseline h (fun _ => Nat.zero_le _) false

theorem Maintained.baselineStep (h : P s) (c : Conditioned) (i : Int) : P (s.baselineStep L c i).1 := by
  unfold State.baselineStep
  split
  · exact m.setBaseline h (fun _ => baselineAfter_le ..) true
  · exact h

theorem Maintained.teardown (h : P s) : P (s.teardown L) := m.abandon (m.release L (m.dropTrain h))

theorem Maintained.releaseLine (h : P s) (b : Bool) : P (s.releaseLine L b) :=
  m.stage (m.changeHook (m.stopTimer (m.teardown h)) .onHook) ..

theorem Maintained.parkIf (h : P s) (b : Bool) : P (s.parkIf L b) := by
  unfold State.parkIf State.park
  repeat' split
  · exact m.stage (m.release L (m.changeHook (m.dropTrain h) .parked)) ..
  · exact h
  · exact h

theorem Maintained.guardEntry (h : P s) : P (s.guardEntry L) := by
  have h1 : P (((s.teardown L).stopTimer L).clearStartMark L) := m.clearStartMark (m.stopTimer (m.teardown h))
  unfold State.guardEntry
  revert h1
  generalize ((s.teardown L).stopTimer L).clearStartMark L = u
  intro h1
  have h2 : ∀ r, P ((u.setSup L { (u.line L).sup with guardReturn := r }).changeHook L .guard) := fun _ =>
    m.changeHook (m.setSup h1 _) .guard
  dsimp only
  split
  · split
    · exact m.stage (h2 _) ..
    · exact h2 _
  · exact h

theorem Maintained.guardExit (h : P s) : P (s.guardExit L) := by
  unfold State.guardExit
  split
  · exact m.setSup (m.clearBaseline (m.askReseed (m.changeHook h _))) _
  · exact h

theorem Maintained.guardRequest (h : P s) (g : GuardRequest) : P (s.guardRequest L g) := by
  cases g
  case none => exact h
  case entry => exact m.guardEntry h
  case exit => exact m.guardExit h

theorem Maintained.confirmSeizure (h : P s) (x : Sample) : P (s.confirmSeizure L x) := by
  have h1 : ∀ b, P (((s.stopTimer L).changeHook L .active).stage (some L) b) := fun b =>
    m.stage (m.changeHook (m.stopTimer h) .active) ..
  unfold State.confirmSeizure
  dsimp only
  split
  · exact m.requestIfTone (m.openCollection (m.clearStartMark (m.markUntimed (m.setMarks (h1 _) _) L)) false)
  · exact m.requestIfTone (m.openCollection (m.clearStartMark (h1 _)) false)

theorem Maintained.flashLine (h : P s) (n : Nat) : P (s.flashLine L n) :=
  m.requestIfTone (m.stage (m.openCollection (m.dropTrain h) false) ..)

theorem Maintained.endBreak (h : P s) : P (s.endBreak L).1 := by
  have h1 := m.changeHook (m.stopTimer h (L := L)) .active (L := L)
  unfold State.endBreak
  dsimp only
  split
  · exact m.flashLine h1 _
  · exact h1

theorem Maintained.hookStep (h : P s) (x : Sample) (f : LoopState) : P (s.hookStep L x f).1 := by
  have hs : EditPart.sup ∈ [EditPart.sup, .dec, .stage] := by decide
  unfold State.hookStep
  dsimp only
  split
  · exact m.edits h ((Edits.refl.startTimer hs).changeHook hs _)
  · exact m.clearStartMark h
  · exact m.changeHook (m.clearStartMark (m.stopTimer h)) _
  · split
    · dsimp only
      exact m.confirmSeizure h x
    · exact h
  · exact m.edits h (Edits.refl.beginBreak hs _)
  · exact h
  · split
    · dsimp only
      exact m.releaseLine h false
    · split
      · exact m.endBreak h
      · exact h
  · exact m.edits h (Edits.refl.beginBreak hs _)
  · exact h
  · split
    · dsimp only
      exact m.releaseLine h true
    · split
      · exact m.changeHook (m.stopTimer h) _
      · exact h
  · exact h

/-! ### The Fault Monitor -/

theorem Maintained.setFault (h : P s) (x : FaultRecord) (hx : (s.line L).fault.a16 ≤ 32736 → x.a16 ≤ 32736) :
    P (s.setFault L x) := by
  refine m.setLine L _ h fun hl => ?_
  rw [Line.sound_iff] at *
  obtain ⟨hs, hf, hc, hp⟩ := hl
  exact ⟨hs, hx hf, hc, hp⟩

theorem Maintained.storeCondition (h : P s) (c : Condition) (r : CondRecord) : P (s.storeCondition L c r) := by
  have h1 : P (s.setFault L ((s.line L).fault.set c r)) := m.setFault h _ fun hf => by cases c <;> exact hf
  unfold State.storeCondition
  dsimp only
  split
  · exact h1
  · exact m.markTimed h1 L

theorem Maintained.reportCondition (h : P s) (c : Condition) (o : CondRecord) (f : CondEffect) (k : Hook) (v : Nat)
    (u : Bool) : P (s.reportCondition L c o f k v u) := by
  cases f
  case none => exact h
  case raise => exact m.stage h ..
  case clear => exact m.stage h ..

theorem Maintained.evalIf (h : P s) (b : Bool) (c : Condition) (p : Bool) (e : Nat) (k : Hook) (v : Nat) :
    P (s.evalIf b L c p e k v).1 := by
  unfold State.evalIf
  split
  · exact m.reportCondition (m.storeCondition h c _) ..
  · exact h

theorem Maintained.faultConditions (h : P s) (x : Sample) (c : Conditioned) (k : Hook) (b : Bool) :
    P (s.faultConditions L x c k b).1 := by
  have h0 := m.setFault h { (s.line L).fault with a16 := a16After (s.line L).fault.a16 (voltageChange x c) }
    (fun _ => a16After_le ..) (L := L)
  have h1 : ∀ {u : State}, P u → P (u.evalCross L x k).1 := fun {u} hu =>
    m.reportCondition (m.storeCondition
      (m.setFault hu { (u.line L).fault with run := runAfter (u.line L).fault.run (sampleHigh x) } id) .powerCross _) ..
  exact m.evalIf (m.evalIf (m.evalIf (m.evalIf (h1 h0) ..) ..) ..) ..

theorem Maintained.testRaise (h : P s) (f : Finding) (r : Int) : P (s.testRaise L f r) := by
  have h1 : ∀ x, P (s.setFault L { (s.line L).fault with foreignDc := x }) := fun _ => m.setFault h _ id
  unfold State.testRaise
  dsimp only
  split
  · exact m.stage (m.markTimed (h1 _) L) ..
  · exact m.stage (m.markTimed (h1 _) L) ..
  · split
    · exact h1 _
    · exact m.markTimed (h1 _) L
  · exact m.markTimed (h1 _) L

theorem Maintained.takeSample (h : P s) (L : LineNo) (x : Sample) : P (s.takeSample L x).1 := by
  have h1 : P (s.beforeHook L x) := by
    have h2 : P (s.conditionStep L x) := m.setLine L _ h fun hl => hl
    exact m.setSup h2 _
  have h3 : P (s.hookOf L x).1 := m.hookStep h1 ..
  cases hd : (s.line L).sup.hook.discards
  · rw [State.takeSample_of_taken x hd]
    have h4 := m.baselineStep h3 ((s.line L).conditioned x) x.i (L := L)
    have h5 := m.edits h4 (Edits.refl.decoderStep (L := L) (by decide) (by decide) (s.hookOf L x).2.outcome x.elapsed.val)
    exact m.guardRequest (m.faultConditions (m.poolStep (m.parkIf (m.collectorStep h5 ..) _) ..) ..) _
  · rwa [State.takeSample_of_discarded x hd]

/-! ### The Test Engine -/

theorem Maintained.completeOrder (h : P s) (r : OrderResult) : P (s.completeOrder r) := by
  unfold State.completeOrder
  split
  · exact m.setExecutor h _
  · exact h

theorem Maintained.finishTest (h : P s) : P s.finishTest := by
  unfold State.finishTest
  split
  · exact h
  · exact m.completeOrder (m.returnLine (m.setTest h _)) _

theorem Maintained.closeTest (h : P s) : P s.closeTest := by
  unfold State.closeTest
  dsimp only
  split
  · exact m.setTest h _
  · exact m.finishTest (m.setTest h _)

theorem Maintained.afterResistance (h : P s) : P s.afterResistance := by
  unfold State.afterResistance
  split
  · exact m.setTest h _
  · exact m.closeTest h

theorem Maintained.afterVoltage (h : P s) : P s.afterVoltage := by
  unfold State.afterVoltage
  split
  · exact m.setTest h _
  · exact m.afterResistance h

theorem Maintained.beginTests (h : P s) : P s.beginTests := by
  unfold State.beginTests
  dsimp only
  split
  · exact m.setTest (m.setTest h _) _
  · exact m.afterVoltage (m.setTest h _)

theorem Maintained.finding (h : P s) (f : Finding) (r : Int) : P (s.finding f r) := by
  have h1 := m.setTest h { s.test with finding := f, results := s.test.results.skipAll, stimulus := .none }
  unfold State.finding
  dsimp only
  split
  · exact m.closeTest (m.testRaise h1 f r)
  · exact m.closeTest h1

theorem Maintained.judgeVoltage (h : P s) : P s.judgeVoltage := by
  unfold State.judgeVoltage
  dsimp only
  split
  · exact m.finding h ..
  · exact m.afterVoltage h

theorem Maintained.storeResistance (h : P s) (q : ResQ) (x : Quantity) : P (s.storeResistance q x) := by
  have h1 := m.setTest h { s.test with results := s.test.results.setResistance q x }
  cases q
  case tg => exact m.setTest (m.setTest h1 _) _
  case rg => exact m.setTest (m.setTest h1 _) _
  case tr => exact m.afterResistance (m.setTest h1 _)

theorem Maintained.collision (h : P s) (q : ResQ) (x : Int) : P (s.collision q x) := m.finding (m.setTest h _) ..

theorem Maintained.finishCheck (h : P s) (v : Verified) : P (s.finishCheck v) := m.completeOrder (m.setTest h _) _

theorem Maintained.seriesEnded (h : P s) (x : ReadTarget) (d a : Int) (u : Bool) : P (s.seriesEnded x d a u) := by
  have h1 : ∀ t, P (s.setTest t) := m.setTest h
  cases x
  case tip => exact h1 _
  case ring => exact m.judgeVoltage (h1 _)
  case drive => exact h1 _
  case currentHigh =>
    unfold State.seriesEnded
    dsimp only
    split
    · exact m.storeResistance (h1 _) ..
    · exact h1 _
  case currentLow =>
    unfold State.seriesEnded
    dsimp only
    split <;> exact m.storeResistance (h1 _) ..
  case v0 => exact h1 _
  case v1 => exact m.closeTest (h1 _)
  case refZero => exact h1 _
  case refMid => exact h1 _
  case refFull => exact m.finishCheck (h1 _) _

theorem Maintained.useReading (h : P s) (x : ReadTarget) (d a : Int) : P (s.useReading x d a) := by
  unfold State.useReading
  split
  · exact m.seriesEnded h ..
  · split
    · exact m.collision h ..
    · split
      · exact m.setTest h _
      · exact m.seriesEnded h ..
  · split
    · exact m.setTest h _
    · exact m.seriesEnded h ..

theorem Maintained.readingDone (h : P s) (xs : List Int) : P (s.readingDone xs) := by
  unfold State.readingDone
  repeat' split
  · exact m.useReading h ..
  · exact m.setTest h _
  · exact h
  · exact h

theorem Maintained.loopWatch (h : P s) (v : Int) : P (s.loopWatch v) := by
  unfold State.loopWatch
  repeat' split
  · exact m.closeTest (m.setTest h _)
  · exact m.useReading h ..
  · exact h

theorem Maintained.dischargeEnd (h : P s) (n : AfterDischarge) : P (s.dischargeEnd n) := by
  cases n
  case resistance => exact m.setTest h _
  case capacitance => exact m.setTest h _
  case close => exact m.finishTest (m.setTest h _)

theorem Maintained.tickTest (h : P s) : P s.tickTest.1 := by
  unfold State.tickTest
  split
  · split
    · exact m.beginTests h
    · exact m.setTest h _
  · split <;> exact m.setTest h _
  · split <;> exact m.setTest h _
  · split
    · exact m.dischargeEnd h _
    · exact m.setTest h _
  · exact h

theorem Maintained.stopTest (h : P s) : P s.stopTest := by
  unfold State.stopTest
  dsimp only
  split
  · exact m.returnLine (m.setTest h _)
  · exact m.setTest h _

/-! ### The Journal Unit -/

theorem Maintained.workAt (h : P s) (w : Work) (x : WorkStep) : P (s.workAt w x) := m.setJournal h _

theorem Maintained.beginBatch (h : P s) (k : WorkKind) : P (s.beginBatch k) := m.setJournal h _

theorem Maintained.trigger (h : P s) : P s.trigger := m.same h (by simp) (by simp) (by simp) (by simp)

/-- GAP takes the place that a written record has freed (R160). -/
theorem Maintained.stageGap (h : P s) {j : Journal}
    (hj : s.journal.sound = true → j.queue.length < 32 ∧ j.dropped ≤ 65535) : P (s.setJournal j).stageGap := by
  unfold State.stageGap
  dsimp only
  split
  · refine m.rest h rfl rfl fun hs => (Journal.sound_iff _).mpr ?_
    obtain ⟨hq, hd⟩ := hj hs
    exact ⟨Nat.le_of_lt hq, hd⟩
  · refine m.rest h (by simp) (by simp) fun hs => ?_
    rw [Journal.sound_iff, State.append_queue, (State.append_drops ..).1]
    simpa using (hj hs).1

theorem Maintained.afterRecords (h : P s) (w : Work) : P (s.afterRecords w) := by
  unfold State.afterRecords
  repeat' split
  · exact m.workAt h ..
  · exact m.workAt (m.setJournal h _) ..
  · exact m.workAt h ..

theorem Maintained.recordWritten (h : P s) (w : Work) : P (s.recordWritten w) := by
  unfold State.recordWritten
  dsimp only
  have h1 : ∀ d n, P (s.setJournal { s.journal with queue := s.journal.queue.tail, delay := d, nextIndex := n }).stageGap :=
    fun _ _ => m.stageGap h fun hj => by
      rw [Journal.sound_iff] at hj
      refine ⟨?_, hj.2⟩
      have := hj.1
      simp only [List.length_tail]
      omega
  split
  · exact m.afterRecords (h1 _ _) _
  · exact m.workAt (h1 _ _) ..

theorem Maintained.raiseIfNew (h : P s) (o : Bool) (c : Cause) : P (s.raiseIfNew o c) := by
  unfold State.raiseIfNew
  split
  · exact h
  · exact m.raiseCause h c

theorem Maintained.owedWork (h : P s) : P s.owedWork := by
  unfold State.owedWork
  repeat' split
  · exact h
  · exact m.beginBatch (m.setJournal h _) _
  · exact m.setJournal (m.setJournal h _) _
  · exact h

theorem Maintained.endWork (h : P s) (w : Work) : P (s.endWork w) := by
  generalize h0 : (if w.wrote = 0 then s else s.raiseCause .batch) = s1
  have h1 : P s1 := by
    rw [← h0]
    split
    · exact h
    · exact m.raiseCause h _
  have h2 := m.setJournal h1 { s1.journal with work := none }
  unfold State.endWork
  dsimp only
  rw [h0]
  split
  · exact m.enterStopped h2
  · split
    · exact m.owedWork h2
    · exact h2
  · have h3 : P (s1.setJournal { s1.journal with work := none }).restartAbsolute := by
      unfold State.restartAbsolute
      split
      · exact h2
      · exact m.setJournal h2 _
    split
    · exact m.owedWork h3
    · exact h3

theorem Maintained.ownerRead (h : P s) (w : Work) (d : List Byte) : P (s.ownerRead w d) := by
  unfold State.ownerRead
  repeat' split
  · unfold State.recovered
    split
    · exact m.setJournal h _
    · exact m.beginBatch (m.setJournal h _) _
  · exact m.workAt (m.setJournal h _) ..
  · exact m.workAt h ..
  · exact m.afterRecords (m.raiseIfNew (m.setJournal h _) ..) w

theorem Maintained.roomChecked (h : P s) (w : Work) (d : List Byte) : P (s.roomChecked w d) := by
  unfold State.roomChecked
  split
  · exact m.workAt (m.setJournal h _) ..
  · exact m.workAt (m.raiseIfNew (m.setJournal h _) ..) ..

theorem Maintained.journalDone (h : P s) (d : List Byte) : P (s.journalDone d) := by
  unfold State.journalDone
  split
  · exact h
  · split
    · exact m.ownerRead h ..
    · exact m.workAt h ..
    · exact m.recordWritten h _
    · exact m.roomChecked h ..
    · exact h
    · exact m.workAt h ..
    · exact m.endWork h _

theorem Maintained.journalPoll (h : P s) : P s.journalPoll := by
  unfold State.journalPoll
  repeat' split
  · exact m.setJournal h _
  · exact h
  · exact m.setJournal h _
  · exact m.setJournal h _
  · exact h
  · exact h

/-! ### The Order Executor -/

theorem Maintained.becomeIdle (h : P s) : P s.becomeIdle := by
  unfold State.becomeIdle
  split <;> exact m.setExecutor h _

theorem Maintained.executorPoll (h : P s) : P s.executorPoll := by
  unfold State.executorPoll
  repeat' split
  · exact m.atPhase h _
  · exact m.setExecutor h _
  · exact m.setExecutor h _
  · exact h
  · exact h

theorem Maintained.returned (h : P s) : P s.returned := by
  have h1 := m.owedWork h
  unfold State.returned State.owedLook
  split
  · exact m.setExecutor h1 _
  · exact h1

theorem Maintained.orderBlock (h : P s) (L : LineNo) : P (s.orderBlock L) := by
  have h1 : P (s.blockLine L) := by
    unfold State.blockLine
    split
    · exact m.changeHook (m.clearStartMark h) _
    · exact m.changeHook (m.teardown h) _
    · exact h
  exact m.completeOrder h1 _

theorem Maintained.orderUnblock (h : P s) (L : LineNo) : P (s.orderUnblock L) := by
  have h1 : P (s.unblockLine L) := by
    unfold State.unblockLine
    split
    · exact m.clearBaseline (m.askReseed (m.changeHook h _))
    · exact m.setSup h _
    · exact h
  exact m.completeOrder h1 _

theorem Maintained.orderAttach (h : P s) (L : LineNo) : P (s.orderAttach L) := by
  unfold State.orderAttach
  split
  · exact m.completeOrder (m.request L h) _
  · exact m.completeOrder h _

theorem Maintained.orderResume (h : P s) (L : LineNo) : P (s.orderResume L) := by
  unfold State.orderResume
  dsimp only
  split
  · exact m.completeOrder (m.requestIfTone (m.openCollection h true)) _
  · exact m.completeOrder h _

theorem Maintained.admitTest (h : P s) (L : LineNo) (mask : Nat) : P (s.admitTest L mask) := by
  have h1 : P (s.connectLine L) := m.changeHook (m.setSup h _) _
  unfold State.admitTest
  split
  · exact m.completeOrder h _
  · split
    · exact m.setTest h1 _
    · exact m.completeOrder h _

theorem Maintained.onLine (h : P s) (o : Order) {act : State → LineNo → State} (k : ∀ L, P (act s L)) :
    P (s.onLine o act) := by
  unfold State.onLine
  split
  · exact k _
  · exact m.completeOrder h _

theorem Maintained.carryOut (h : P s) (o : Order) : P (s.carryOut o) := by
  have h0 : P (s.atPhase (.executing o .engine)) := m.atPhase h _
  unfold State.carryOut
  dsimp only
  split
  · exact m.completeOrder h0 _
  · exact m.onLine h0 o fun L => m.orderBlock h0 L
  · exact m.onLine h0 o fun L => m.orderUnblock h0 L
  · exact m.onLine h0 o fun L => m.orderAttach h0 L
  · exact m.onLine h0 o fun L => m.completeOrder (m.release L h0) _
  · exact m.onLine h0 o fun L => m.orderResume h0 L
  · exact m.onLine h0 o fun L => m.admitTest h0 L _
  · exact m.setTest h0 _
  · split
    · exact m.atPhase h _
    · exact m.completeOrder h0 _
  · exact m.atPhase h _
  · exact m.atPhase h _

theorem Maintained.orderTaken (h : P s) (o : Order) (n : Nat) : P (s.orderTaken o n) := by
  unfold State.orderTaken
  dsimp only
  split
  · exact m.atPhase (m.setExecutor h _) _
  · exact m.carryOut (m.setExecutor h _) o

/-! ### The reloads -/

theorem Maintained.setProfile (h : P s) (x : Profile) (hx : x.inBounds) : P (s.setProfile L x) := by
  refine m.setLine L _ h fun hl => ?_
  rw [Line.sound_iff] at *
  obtain ⟨hs, hf, hc, _⟩ := hl
  exact ⟨hs, hf, hc, hx⟩

theorem Maintained.refreshLine (h : P s) : P (s.refreshLine L) := by
  have h1 := m.setBaseline h (fun hs => hs.1) (s.line L).sup.seeded (L := L)
  exact m.edits h1 (Edits.refl.setDec (by decide) _)

theorem Maintained.disableLine (h : P s) : P (s.disableLine L) := by
  have h1 : P (((s.teardown L).clearFaults L).stopTimer L) := by
    have h2 := m.setFault (m.teardown h (L := L)) ((s.teardown L).line L).fault.cleared (fun _ => Nat.zero_le _) (L := L)
    refine m.stopTimer ?_
    unfold State.clearFaults
    dsimp only
    split
    · exact h2
    · exact m.markTimed h2 L
  unfold State.disableLine
  revert h1
  generalize ((s.teardown L).clearFaults L).stopTimer L = u
  intro h1
  have h2 : P ((u.setSup L { (u.line L).sup with guardReturn := .onHook, testReturn := .onHook, startMark := false }).changeHook
      L .notEquipped) := m.changeHook (m.setSup h1 _) _
  dsimp only
  split
  · exact m.stage h2 ..
  · exact h2

theorem Maintained.enableLine (h : P s) : P (s.enableLine L) :=
  m.clearStartMark (m.clearBaseline (m.askReseed (m.changeHook h _)))

theorem Maintained.loseTone (h : P s) (a b : Profile) : P (s.loseTone L a b) := by
  unfold State.loseTone
  split
  · exact m.release L h
  · exact h

theorem Maintained.markClamped (h : P s) (b : Bool) : P (s.markClamped L b) := by
  unfold State.markClamped
  dsimp only
  split
  · exact m.setMarks h _
  · exact m.markUntimed (m.setMarks h _) L

theorem Maintained.applyProfile (h : P s) (L : LineNo) (bs : List Byte) : P (s.applyProfile L bs) := by
  have h1 := m.markClamped (m.setProfile h _ (parseProfile_inBounds bs) (L := L)) (decide (0 < profileClamped bs)) (L := L)
  unfold State.applyProfile
  revert h1
  generalize parseProfile bs = new
  dsimp only
  generalize (s.setProfile L new).markClamped L (decide (0 < profileClamped bs)) = u
  intro h1
  split
  · split
    · exact m.enableLine h1
    · exact h1
  · split
    · exact m.loseTone (m.refreshLine h1) ..
    · exact m.loseTone (m.disableLine h1) ..

theorem Maintained.profileRead (h : P s) (o : Order) (a b c d e : Nat) (x : List Byte) :
    P (s.profileRead o a b c d e x) := by
  have h1 : P (if ha : a < 96 then s.applyProfile ⟨a, ha⟩ x else s) := by
    split
    · exact m.applyProfile h ..
    · exact h
  unfold State.profileRead
  dsimp only
  split
  · exact m.completeOrder h1 _
  · exact m.atPhase h1 _

theorem Maintained.planPart (h : P s) (o : Order) (a b x : List Byte) : P (s.planPart o a b x) := by
  unfold State.planPart
  dsimp only
  split
  · exact m.completeOrder (m.setPlan h _) _
  · exact m.atPhase h _

theorem Maintained.applySettings (h : P s) (bs : List Byte) : P (s.applySettings bs) := by
  have h1 : ∀ st a b, P { s with settings := st, journal := (s.journal.stopAbsolute a).dropRoomRead b } :=
    fun st a b => by
      obtain ⟨hq, hd⟩ := Journal.dropRoomRead_frame (s.journal.stopAbsolute a) b
      obtain ⟨hq', hd'⟩ := Journal.stopAbsolute_frame s.journal a
      exact m.same h rfl rfl (hq.trans hq') (hd.trans hd')
  unfold State.applySettings
  dsimp only
  repeat' split
  · exact m.trigger (h1 ..)
  · exact h1 ..
  · exact m.trigger (m.changeEnabled _ (h1 ..))
  · exact m.changeEnabled _ (h1 ..)

theorem Maintained.settingsPart (h : P s) (o : Order) (b x : List Byte) : P (s.settingsPart o b x) := by
  unfold State.settingsPart
  dsimp only
  split
  · exact m.completeOrder (m.applySettings h _) _
  · exact m.atPhase h _

theorem Maintained.executorDone (h : P s) (d : List Byte) : P (s.executorDone d) := by
  unfold State.executorDone
  split
  · exact h
  · exact m.atPhase h _
  · unfold State.lookDone
    dsimp only
    split <;> exact m.atPhase h _
  · unfold State.takeReadDone
    split
    · exact m.atPhase h _
    · exact m.becomeIdle h
  · exact m.orderTaken h ..
  · rename_i w _
    cases w
    case engine => exact h
    case profiles => exact m.profileRead h ..
    case plan => exact m.planPart h ..
    case settings => exact m.settingsPart h ..
  · exact m.atPhase h _
  · exact m.becomeIdle (m.raiseCause h _)

/-! ### The start sequence -/

theorem Maintained.startAt (h : P s) (q : StartSeq) : P (s.startAt q) := m.setRun h _

theorem Maintained.failStart (h : P s) (r : StartResult) : P (s.failStart r) := m.enterStopped (m.setRun h _)

theorem Maintained.startProfile (h : P s) (q : StartSeq) (L : LineNo) (d : List Byte) : P (s.startProfile q L d) := by
  have h1 := m.setProfile h _ (parseProfile_inBounds d) (L := L)
  have h2 := m.setMarks h1 { ((s.setProfile L (parseProfile d)).line L).marks with
    profileClamped := decide (0 < profileClamped d) } (L := L)
  unfold State.startProfile
  revert h2
  generalize parseProfile d = new
  dsimp only
  intro h2
  split
  · exact m.startAt h2 _
  · exact m.startAt (m.beginEntries h2) _

theorem Maintained.startEnds (h : P s) (q : StartSeq) : P (s.startEnds q) := by
  have h1 : P (s.started q) := m.enterRunning (m.stage h ..)
  rw [State.startEnds_eq]
  split
  · exact h1
  · exact m.owedWork h1

theorem Maintained.startDone (h : P s) (d : List Byte) : P (s.startDone d) := by
  unfold State.startDone
  split
  · exact h
  · split
    · unfold State.startSettings
      dsimp only
      repeat' split
      · exact m.startAt h _
      · exact m.startAt (m.setArea h ..) _
      · exact m.failStart h _
    · unfold State.startPlan
      dsimp only
      split
      · exact m.startAt (m.setPlan h _) _
      · exact m.startAt h _
    · exact m.startProfile h ..
    · unfold State.startEntryDone
      split <;> exact m.startAt h _
    · exact m.startEnds h _

/-! ### The outcomes of an access, and the Run Control's commands -/

theorem Maintained.unitDone (h : P s) (u : MemUnit) (d : List Byte) : P (s.unitDone u d) := by
  cases u
  case journal => exact m.journalDone h d
  case executor => exact m.executorDone h d
  case start => exact h

theorem Maintained.accessDone (h : P s) (d : List Byte) : P (s.accessDone d) := by
  have h1 : P s.freePort := m.setRun h _
  unfold State.accessDone
  split
  · exact h
  · split
    · dsimp only
      split
      · exact m.settle (m.startDone h1 d)
      · exact m.settle (m.unitDone h1 _ d)
      · split
        · exact m.settle (m.unitDone h1 _ d)
        · exact m.settle h1
      · refine m.settle ?_
        cases hf : s.freePort.run.freezeAsked
        · rw [State.retryDone_of_not_freeze hf]
          exact m.returned (m.unitDone (m.setRun h1 _) _ d)
        · rw [State.retryDone_of_freeze hf]
          exact m.unitDone (m.raiseCause (m.setRun (m.setRun h1 _) _) _) _ d
      · exact h1
      · exact h1
    · exact h

theorem Maintained.accessFailed (h : P s) : P s.accessFailed := by
  unfold State.accessFailed
  split
  · exact h
  · split
    · exact m.failStart (m.raiseCause h _) _
    · exact m.raiseCause (m.setRun h _) _
    · exact m.raiseCause (m.setRun h _) _
    · exact m.enterStopped (m.raiseCause h _)
    · exact m.setRun h _
    · exact m.setRun h _

theorem Maintained.runStart (h : P s) : P s.runStart := by
  unfold State.runStart
  split
  · exact m.settle (m.setRun h _)
  · exact h

theorem Maintained.abandonRead (h : P s) : P s.abandonRead := by
  unfold State.abandonRead
  split
  · exact m.setRun h _
  · exact h

theorem Maintained.stopExecutor (h : P s) : P s.stopExecutor := by
  unfold State.stopExecutor
  split
  · exact m.abandonRead (m.atPhase h _)
  · exact m.abandonRead (m.atPhase h _)
  · exact m.abandonRead (m.atPhase h _)
  · split
    · exact h
    · exact m.atPhase h _
  · exact m.abandonRead (m.atPhase (m.stopTest h) _)
  · exact h

theorem Maintained.runStop (h : P s) : P s.runStop := by
  unfold State.runStop
  split
  · exact m.settle (m.setRun (m.stopExecutor (m.setExecutor h _)) _)
  · exact m.enterStopped h
  · exact m.enterStopped h
  · exact m.failStart h _
  · exact h
  · exact h

theorem Maintained.freeze (h : P s) (b : Bool) : P (s.freeze b) := by
  unfold State.freeze
  dsimp only
  split
  · exact m.settle (m.returned (m.setRun (m.setRun h _) _))
  · exact m.settle (m.setRun h _)

theorem Maintained.resume (h : P s) : P s.resume := by
  unfold State.resume
  split
  · exact m.setRun (m.setRun h _) _
  · exact h

/-! ### The sense links and the highway -/

theorem Maintained.deliverAt (h : P s) (g : LinkNo) (fr : Frame) (e : Fin 16) (p : Fin 8) :
    P (State.deliverAt g fr e s p) := by
  unfold State.deliverAt
  exact m.takeSample h _ _

theorem Maintained.deliver (h : P s) (g : LinkNo) (fr : Frame) (e : Fin 16) : P (s.deliver g fr e) := by
  rw [State.deliver]
  generalize positions = ps
  exact State.foldl_keeps (P := P) (fun p hu => m.deliverAt hu g fr e p) ps h

theorem Maintained.restoreLink (h : P s) (g : LinkNo) (fr : Frame) : P (s.restoreLink g fr) := by
  have h1 : P (s.reportUp g fr) := by
    unfold State.reportUp
    split
    · exact m.stage (m.setLink h ..) ..
    · exact m.setLink h ..
  have h2 : P ((s.reportUp g fr).reseedGroup g) := State.foldl_keeps (fun _ hu => m.askReseed hu) _ h1
  rw [State.restoreLink_eq]
  exact m.setLink (m.deliver h2 ..) ..

theorem Maintained.senseFrame (h : P s) (g : LinkNo) (bs : List Byte) : P (s.senseFrame g bs).1 := by
  unfold State.senseFrame
  repeat' split
  · unfold State.acceptFrame
    dsimp only
    split
    · exact h
    · exact m.deliver (m.setLink h ..) ..
  · unfold State.runFrame
    dsimp only
    split
    · exact m.restoreLink (m.setLink h ..) ..
    · exact m.setLink h ..
  · exact h
  · exact m.setLink h ..
  · exact h

theorem Maintained.acceptSymbol (h : P s) (r : RxNo) (L : LineNo) (x : Symbol) : P (s.acceptSymbol r L x) := by
  have h1 := m.takeSymbol h (toneDigit r x) (L := L)
  unfold State.acceptSymbol
  split
  · unfold State.countSymbol
    split
    · exact m.setReceiver r _ h1 rfl rfl fun _ => Nat.min_le_left ..
    · exact h1
  · exact m.stage h ..

theorem Maintained.receiverFrame {a : State × List RxNo} (h : P a.1) (slots : List (BitVec 16)) (r : RxNo) :
    P (State.receiverFrame slots a r).1 := by
  unfold State.receiverFrame
  dsimp only
  split
  · split
    · have h1 : ∀ x d, P (a.1.setReceiver r { ((a.1.receiver r).sampled x).clearBlock with digit := d }) :=
        fun x d => m.setReceiver r { ((a.1.receiver r).sampled x).clearBlock with digit := d } h rfl rfl id
      unfold State.endBlock
      dsimp only
      split
      · exact m.acceptSymbol (h1 ..) ..
      · exact h1 ..
    · exact m.setReceiver r _ h rfl rfl id
  · exact h

theorem Maintained.receiversTake (h : P s) (slots : List (BitVec 16)) : P (s.receiversTake slots).1 := by
  have key : ∀ (rs : List RxNo) {a : State × List RxNo}, P a.1 → P (rs.foldl (State.receiverFrame slots) a).1 := by
    intro rs
    induction rs with
    | nil => exact id
    | cons r rs ih => exact fun ha => ih (m.receiverFrame ha slots r)
  exact key _ h

theorem Maintained.lostFrame (h : P s) : P s.lostFrame.1 := by
  have h1 : ∀ x, P (s.setHighway x) := m.setHighway h
  unfold State.lostFrame
  dsimp only
  split
  · dsimp only
    split
    · exact m.stage (h1 _) ..
    · exact h1 _
  · exact h1 _

theorem Maintained.highwayFrame (h : P s) (slots : List (BitVec 16)) : P (s.highwayFrame slots).1 := by
  have h1 : ∀ x, P (s.setHighway x) := m.setHighway h
  unfold State.highwayFrame
  split
  · split
    · split
      · have h2 := m.receiversTake (h1 { s.highway with credit := true }) slots
        revert h2
        generalize State.receiversTake (s.setHighway { s.highway with credit := true }) slots = r
        exact id
      · exact m.lostFrame h
    · exact h1 s.highway.broken
  · exact h

theorem Maintained.highwayInstant (h : P s) : P s.highwayInstant.1 := by
  unfold State.highwayInstant
  dsimp only
  repeat' split
  · exact m.stage (m.lostHighway (m.setHighway h _)) ..
  · exact m.setHighway h _
  · exact h

/-! ### The strobe instant -/

theorem Maintained.closeLinks (h : P s) : P s.closeLinks := by
  refine State.foldl_keeps (fun g hu => ?_) _ h
  unfold State.closeLink
  dsimp only
  split
  · exact m.stage (m.setLink hu ..) ..
  · exact m.setLink hu ..

theorem Maintained.tickPoll (h : P s) : P s.tickPoll := by
  unfold State.tickPoll
  repeat' split
  · exact m.executorPoll (m.journalPoll (m.setExecutor h _))
  · exact m.setExecutor h _
  · exact h

theorem Maintained.strobeInstant (h : P s) : P s.strobeInstant.1 := by
  have h0 : P s.advanceTime := m.same h rfl rfl rfl rfl
  have h1 : P s.advanceTime.tickDelay := by
    unfold State.tickDelay
    dsimp only
    split
    · exact m.trigger (m.setJournal h0 _)
    · exact m.setJournal h0 _
  have h2 : P s.advanceTime.tickDelay.tickAbsolute := by
    unfold State.tickAbsolute
    dsimp only
    split
    · exact m.trigger (m.setJournal h1 _)
    · exact m.setJournal h1 _
  cases hl : s.run.control.live
  · rwa [State.strobeInstant_of_not_live _ hl]
  · rw [State.strobeInstant_of_live _ hl]
    exact m.closeLinks (m.tickTest (m.tickPoll h2))

/-! ### The commands -/

theorem Maintained.execStrobe {c : Instr} (hc : c.isStrobe = true) (h : P s) (e : exec c s = .next t) : P t := by
  have h1 := m.settle (m.strobeInstant h)
  rcases exec_of_isStrobe hc s with rfl | ⟨due, he⟩
  · cases e
    exact h1
  · rw [he] at e
    cases e
    exact State.ite_keeps _ h h1

theorem Maintained.execSample {c : Instr} {x : Sample} (hc : c.sampleOf = some (L, x)) (h : P s)
    (e : exec c s = .next t) : P t := by
  obtain ⟨due, he⟩ := exec_of_sampleOf hc s
  rw [he] at e
  cases e
  exact State.ite_keeps _ h (m.settle (m.takeSample h L x))

theorem Maintained.execOrder {due : Bool} {d : List Byte} (h : P s) (e : s.orderRow due d = .next t) : P t := by
  cases e
  exact State.ite_keeps _ h (m.accessDone h d)

/-- Every command maintains what the shared operations do. -/
theorem Maintained.exec {c : Instr} (h : P s) (e : exec c s = .next t) : P t := by
  cases c
  case strobeInstant => exact m.execStrobe rfl h e
  case linkLost g => exact m.execStrobe rfl h e
  case batchDelayExpiry => exact m.execStrobe rfl h e
  case batchAbsoluteExpiry => exact m.execStrobe rfl h e
  case orderPoll => exact m.execStrobe rfl h e
  case testSettleEnd => exact m.execStrobe rfl h e
  case stimulusWaitEnd => exact m.execStrobe rfl h e
  case pulseEnd => exact m.execStrobe rfl h e
  case dischargeEnd => exact m.execStrobe rfl h e
  case senseFrame g b => cases e; exact m.settle (m.senseFrame h g b)
  case linkRestored g b => cases e; exact State.ite_keeps _ h (m.settle (m.senseFrame h g b))
  case seizeConfirm => exact m.execSample rfl h e
  case release => exact m.execSample rfl h e
  case parkedRelease => exact m.execSample rfl h e
  case digitEnd => exact m.execSample rfl h e
  case firstDigitTimeout => exact m.execSample rfl h e
  case interdigitTimeout => exact m.execSample rfl h e
  case toneWindowExpiry => exact m.execSample rfl h e
  case queueWaitNotice => exact m.execSample rfl h e
  case conditionConfirm => exact m.execSample rfl h e
  case conditionClear => exact m.execSample rfl h e
  case powerCrossRaise => exact m.execSample rfl h e
  case powerCrossClear => exact m.execSample rfl h e
  case highwayInstant => cases e; exact m.settle (m.highwayInstant h)
  case highwayLost => cases e; exact State.ite_keeps _ h (m.settle (m.highwayInstant h))
  case highwayFrame x => cases e; exact m.settle (m.highwayFrame h x)
  case highwayRestored x => cases e; exact State.ite_keeps _ h (m.settle (m.highwayFrame h x))
  case blockEnd r x => cases e; exact State.ite_keeps _ h (m.settle (m.highwayFrame h x))
  case memoryAccessDone d => cases e; exact m.accessDone h d
  case memoryAccessError => cases e; exact m.accessFailed h
  case memoryAccessTimeout => cases e; exact m.accessFailed h
  case block => exact m.execOrder h e
  case unblock => exact m.execOrder h e
  case attachReceiver => exact m.execOrder h e
  case detachReceiver => exact m.execOrder h e
  case resumeCollection => exact m.execOrder h e
  case reloadProfiles => exact m.execOrder h e
  case reloadPlan => exact m.execOrder h e
  case reloadSettings => exact m.execOrder h e
  case lineTest => exact m.execOrder h e
  case selfCheck => exact m.execOrder h e
  case readingDone x => cases e; exact m.settle (m.readingDone h x)
  case loopWatchRead v => cases e; exact m.settle (m.loopWatch h v)
  case runStart => cases e; exact m.runStart h
  case runStop => cases e; exact m.runStop h
  case freeze b => cases e; exact m.freeze h b
  case resume => cases e; exact m.resume h
  case nudge v => cases e; exact m.settle (m.executorPoll (m.journalPoll h))
  case ignoredRegisterWrite => cases e; exact h
  case enables v => cases e; exact m.setRun h _
  case areaBase v => cases e; exact State.ite_keeps _ h (m.setRun h _)
  case cause v => cases e; exact m.setRun h _
  case softReset => cases e; exact m.same m.reset rfl rfl rfl rfl
  case pinReset => cases e; exact m.same m.reset rfl rfl rfl rfl

/-- Every step maintains what the shared operations do. -/
theorem Maintained.step (h : P s) (e : step s = .next t) : P t := by
  unfold Machine.step at e
  split at e
  · cases e
    exact h
  · exact m.exec (m.withPending h _) e

end Maintained

/-! ### The bounds are maintained -/

theorem State.attach_receiver_self {s : State} (r : RxNo) (L : LineNo) :
    (s.attach r L).receiver r = (s.receiver r).attachTo L := s.receiver_setReceiver_self r _

theorem State.attach_receiver_other {s : State} {r q : RxNo} {L : LineNo} (hq : q ≠ r) :
    (s.attach r L).receiver q = s.receiver q := (s.receiver_setReceiver r q _).trans (if_neg hq)

theorem State.attach_sound {s : State} (r : RxNo) (L : LineNo) (h : s.sound) : (s.attach r L).sound := by
  obtain ⟨hj, hl, hr⟩ := h
  refine ⟨hj, fun K => ?_, fun q => ?_⟩
  · rw [State.attach, State.line_markTimed]
    split
    · exact hl L
    · exact hl K
  · by_cases hq : q = r
    · subst hq
      rw [State.attach_receiver_self, Receiver.sound_iff]
      simp [Receiver.attachTo]
    · rw [State.attach_receiver_other hq]
      exact hr q

theorem State.handOver_sound {s : State} (r : RxNo) (h : s.sound) : (s.handOver r).sound := by
  unfold State.handOver
  split
  · exact h
  · exact State.attach_sound (s := s.setQueue _) r _ h

theorem State.markTimed_sound {s : State} (L : LineNo) (h : s.sound) : (s.markTimed L).sound := by
  refine ⟨h.1, fun K => ?_, h.2.2⟩
  rw [State.line_markTimed]
  split
  · exact h.2.1 L
  · exact h.2.1 K

theorem State.setReceiver_sound {s : State} (r : RxNo) (x : Receiver) (h : s.sound)
    (hx : (s.receiver r).sound = true → x.sound = true) : (s.setReceiver r x).sound := by
  refine ⟨h.1, h.2.1, fun q => ?_⟩
  rw [State.receiver_setReceiver]
  split
  · exact hx (h.2.2 r)
  · exact h.2.2 q

theorem Receiver.detached_sound (rx : Receiver) (h : rx.sound = true) : rx.detached.sound = true := by
  rw [Receiver.sound_iff] at *
  refine ⟨?_, h.2⟩
  cases hr : rx.retire <;> simp [Receiver.detached, hr]

theorem State.request_sound {s : State} (L : LineNo) (h : s.sound) : (s.request L).sound := by
  unfold State.request
  split
  · exact h
  · split
    · exact State.attach_sound _ L h
    · exact State.markTimed_sound (s := s.setQueue _) L h

theorem State.release_sound {s : State} (L : LineNo) (h : s.sound) : (s.release L).sound := by
  unfold State.release
  split
  · rename_i r _
    have h1 := State.markTimed_sound L (State.setReceiver_sound r _ h (Receiver.detached_sound _))
    unfold State.detach
    dsimp only
    split
    · exact h1
    · exact State.handOver_sound r h1
  · split
    · exact State.markTimed_sound (s := s.setQueue _) L h
    · exact h

theorem State.recount_sound {s : State} (n : Nat) (r : RxNo) (h : s.sound) : (State.recount n s r).sound := by
  unfold State.recount
  dsimp only
  repeat' split
  all_goals rename_i hs
  · refine State.setReceiver_sound r _ h fun hr => ?_
    rw [Receiver.sound_iff] at *
    simpa [hs] using hr
  · exact State.setReceiver_sound r _ h id
  · exact h
  · refine State.handOver_sound r (State.setReceiver_sound r _ h fun hr => ?_)
    rw [Receiver.sound_iff] at *
    simpa [hs] using hr
  · exact State.setReceiver_sound r _ h id
  · exact h

theorem Receiver.lostHighway_sound {rx : Receiver} (h : rx.sound = true) : rx.lostHighway.sound = true := by
  unfold Receiver.lostHighway
  split <;> exact h

theorem Line.running_sound {ln : Line} (h : ln.sound = true) : ln.running.sound = true := by
  rw [Line.sound_iff] at *
  obtain ⟨_, _, _, hp⟩ := h
  have hb := Profile.withBaseline_inBounds hp ln.sup (Nat.zero_le 16368) false
  exact ⟨hb, Nat.zero_le _, ⟨Nat.zero_le _, fun hc => by cases hc⟩, hp⟩

theorem Line.stopped_sound {ln : Line} (now : Word) (h : ln.sound = true) : (ln.stopped now).sound = true := by
  rw [Line.sound_iff] at *
  obtain ⟨hs, hf, _, hp⟩ := h
  exact ⟨hs, Nat.zero_le _, ⟨Nat.zero_le _, fun hc => by cases hc⟩, hp⟩

theorem Receiver.running_sound (n k : Nat) : (Receiver.running n k).sound = true := by
  rw [Receiver.sound_iff]
  unfold Receiver.running
  split <;> simp

/-- The bounds of the records are maintained by what the shared operations are built of. -/
theorem soundMaintained : Maintained State.sound where
  rest := fun ⟨hj, hl, hr⟩ el ep ej =>
    ⟨ej hj, fun L => by rw [State.line, el]; exact hl L, fun r => by rw [State.receiver, ep]; exact hr r⟩
  setLine := fun {s} L x ⟨hj, hl, hr⟩ hx => by
    refine ⟨hj, fun K => ?_, hr⟩
    rw [State.line_setLine]
    split
    · exact hx (hl L)
    · exact hl K
  setReceiver := fun {s} r x h hst hln ha => State.setReceiver_sound r x h fun hr => by
    rw [Receiver.sound_iff] at *
    rw [hst, hln]
    exact ⟨hr.1, ha hr.2⟩
  setQueue := fun _ h _ => h
  request := State.request_sound
  release := State.release_sound
  changeEnabled := fun n h => State.foldl_keeps (fun r hu => State.recount_sound n r hu) allRx h
  lostHighway := fun {s} ⟨hj, hl, hr⟩ =>
    ⟨hj, hl, fun r => by
      rw [State.receiver, State.mapReceivers, mapEach_getElem]
      exact Receiver.lostHighway_sound (hr r)⟩
  beginEntries := fun {s} ⟨hj, hl, hr⟩ =>
    ⟨hj, fun L => by
      rw [State.line, State.beginEntries, mapEach_getElem]
      exact hl L, hr⟩
  enterRunning := fun {s} ⟨hj, hl, _⟩ => by
    refine ⟨?_, fun L => ?_, fun r => ?_⟩
    · rw [Journal.sound_iff] at *
      exact ⟨hj.1, Nat.zero_le _⟩
    · rw [State.enterRunning_line]
      exact Line.running_sound (hl L)
    · rw [State.enterRunning_receiver]
      exact Receiver.running_sound ..
  enterStopped := fun {s} ⟨_, hl, _⟩ => by
    refine ⟨by rw [Journal.sound_iff]; exact ⟨Nat.zero_le _, Nat.zero_le _⟩, fun L => ?_, fun r => ?_⟩
    · rw [State.line, State.enterStopped, mapEach_getElem]
      exact Line.stopped_sound s.time (hl L)
    · rw [State.receiver, State.enterStopped]
      fin_cases r <;> rfl
  reset := by
    refine ⟨rfl, fun L => ?_, fun r => ?_⟩
    · rw [State.reset_line]
      rfl
    · fin_cases r <;> rfl

/-- Settles O5: the bounds are maintained by each operation, hence by every step. -/
theorem soundStateKept : Obligations.SoundStateKept := fun _ _ h e => soundMaintained.step h e

end Sys2Proof.Machine

/-! ## The values at entry to STOPPED, and the end of the final batch (R170, R182) -/

namespace Sys2Proof.Machine

variable {s : State}

theorem State.enterStopped_line (L : LineNo) : s.enterStopped.line L = (s.line L).stopped s.time :=
  mapEach_getElem _ s.lines L.val L.isLt

theorem State.enterStopped_link (g : LinkNo) : s.enterStopped.link g = (s.link g).stopped :=
  mapEach_getElem _ s.links g.val g.isLt

theorem State.enterStopped_receiver (r : RxNo) : s.enterStopped.receiver r = {} := by fin_cases r <;> rfl

@[simp] theorem FaultRecord.cleared_allClear (f : FaultRecord) : f.cleared.allClear = true := rfl

/-- The last unit operation of the final batch stops the part, and raises BATCH if the batch wrote a record. -/
theorem State.endWork_final (n w : Nat) (p : WorkStep) :
    s.endWork ⟨.final, n, w, p⟩ =
      s.enterStopped.setRun { s.run.stopped with causes := if w = 0 then s.run.causes else s.run.causes ||| 1 } := by
  unfold State.endWork
  by_cases hw : w = 0
  · simp only [hw, if_true]
    rfl
  · simp only [hw, if_false]
    rfl

/-- In STOPPING a good response to a live access goes to its unit. -/
theorem State.accessDone_of_stopping {a : Access} {data : List Byte} (hc : s.run.control = .stopping)
    (hp : s.run.port = .busy a true) (ha : a.answeredBy data = true) :
    s.accessDone data = (s.freePort.unitDone a.unit data).settle := by
  unfold State.accessDone
  simp only [hp, ha, hc, if_true]

theorem Access.answeredBy_of_write {a : Access} (data : List Byte) (h : a.write = true) : a.answeredBy data = true := by
  simp [Access.answeredBy, h]

/-- Settles O44: the last write ends the final batch, which stops the part. -/
theorem finalBatchEndsTheStop : Obligations.FinalBatchEndsTheStop := by
  intro s a data n w L hc hp hu hw hwork
  have hdone : s.accessDone data = (s.freePort.endWork ⟨.final, n, w, .block⟩).settle := by
    rw [State.accessDone_of_stopping hc hp (Access.answeredBy_of_write data hw), hu]
    show (s.freePort.journalDone data).settle = _
    rw [State.journalDone, show s.freePort.journal.work = some ⟨.final, n, w, .block⟩ from hwork]
  rw [State.endWork_final] at hdone
  refine ⟨s.freePort.enterStopped.setRun _, congrArg _ hdone, rfl, rfl, rfl, rfl, ?_⟩
  have hline := s.freePort.enterStopped_line L
  have hlink := s.freePort.enterStopped_link
  have hrx := s.freePort.enterStopped_receiver
  refine ⟨?_, ?_, ?_, ?_, ?_, ?_, ?_, hrx, rfl, rfl, fun g => ?_, rfl⟩
  · exact congrArg (·.sup.hook) hline
  · exact congrArg (·.sup.timer) hline
  · exact congrArg (·.dec.trainOpen) hline
  · exact congrArg (·.coll.state) hline
  · exact congrArg (·.coll.string) hline
  · exact congrArg (·.fault.allClear) hline
  · exact congrArg (·.profile) hline
  · exact congrArg (·.up) (hlink g)

end Sys2Proof.Machine

/-! ## What a change of hook state leaves of a line, and the test engine at a strobe instant (R31, R143, R148, R151) -/

namespace Sys2Proof.Machine

variable {s : State} {L : LineNo}

/-! ### A change of hook state -/

/-- A change of hook state writes the hook state and the marks of the entry. -/
theorem State.changeHook_line_self (s : State) (L : LineNo) (h : Hook) :
    (s.changeHook L h).line L = { s.line L with
      sup := { (s.line L).sup with hook := h }, marks := ((s.changeHook L h).line L).marks } := by
  unfold State.changeHook
  split
  · rename_i hh
    rw [← hh]
  · rw [State.line_markTimed, if_pos rfl]
    simp

theorem State.changeHook_line_other {K : LineNo} (hK : K ≠ L) (h : Hook) : (s.changeHook L h).line K = s.line K := by
  unfold State.changeHook
  split
  · rfl
  · rw [State.line_markTimed, if_neg hK, State.line_setMarks, if_neg hK, State.line_setSup, if_neg hK]

/-- The end of a test puts its line back, with its reseed flag set (R31). -/
theorem State.returnLine_line_self (s : State) (L : LineNo) :
    (s.returnLine L).line L = { s.line L with
      cond := { (s.line L).cond with reseed := true }
      sup := { (s.line L).sup with hook := (s.line L).sup.testReturn.hook }
      marks := ((s.returnLine L).line L).marks } := by
  unfold State.returnLine State.askReseed
  rw [State.line_setCond_self, State.changeHook_line_self]

theorem State.returnLine_line_other {K : LineNo} (hK : K ≠ L) : (s.returnLine L).line K = s.line K := by
  unfold State.returnLine State.askReseed
  rw [State.line_setCond, if_neg hK, State.changeHook_line_other hK]

/-! ### The strobe instant up to the test engine -/

/-- The state in which the test engine takes its millisecond. -/
def State.polled (s : State) : State := s.advanceTime.tickDelay.tickAbsolute.tickPoll

theorem State.journalPoll_frame (s : State) :
    s.journalPoll.lines = s.lines ∧ s.journalPoll.test = s.test ∧ s.journalPoll.executor = s.executor := by
  unfold State.journalPoll
  repeat' split
  all_goals exact ⟨rfl, rfl, rfl⟩

theorem State.executorPoll_frame (s : State) :
    s.executorPoll.lines = s.lines ∧ s.executorPoll.test = s.test ∧
    (s.executor.phase ≠ .idle → s.executorPoll.executor.phase = s.executor.phase) := by
  unfold State.executorPoll
  split
  · rename_i hp
    split <;> exact ⟨rfl, rfl, fun h => absurd hp h⟩
  · exact ⟨rfl, rfl, fun _ => rfl⟩

theorem State.tickPoll_frame (s : State) :
    s.tickPoll.lines = s.lines ∧ s.tickPoll.test = s.test ∧
    (s.executor.phase ≠ .idle → s.tickPoll.executor.phase = s.executor.phase) := by
  unfold State.tickPoll
  split
  · obtain ⟨hl, ht, hx⟩ := (s.setExecutor { s.executor with poll := Timer.started }).journalPoll_frame
    obtain ⟨gl, gt, gx⟩ := (s.setExecutor { s.executor with poll := Timer.started }).journalPoll.executorPoll_frame
    rw [hx] at gx
    exact ⟨gl.trans hl, gt.trans ht, gx⟩
  · split <;> exact ⟨rfl, rfl, fun _ => rfl⟩

theorem State.tickDelay_frame (s : State) :
    s.tickDelay.lines = s.lines ∧ s.tickDelay.test = s.test ∧ s.tickDelay.executor = s.executor := by
  unfold State.tickDelay
  dsimp only
  split
  · exact ⟨State.trigger_lines _, (Within.trigger _).test, (Within.trigger _).executor⟩
  · exact ⟨rfl, rfl, rfl⟩

theorem State.tickAbsolute_frame (s : State) :
    s.tickAbsolute.lines = s.lines ∧ s.tickAbsolute.test = s.test ∧ s.tickAbsolute.executor = s.executor := by
  unfold State.tickAbsolute
  dsimp only
  split
  · exact ⟨State.trigger_lines _, (Within.trigger _).test, (Within.trigger _).executor⟩
  · exact ⟨rfl, rfl, rfl⟩

/-- Up to the test engine a strobe instant leaves the lines, the engine and an order in execution as they are. -/
theorem State.polled_frame (s : State) :
    s.polled.lines = s.lines ∧ s.polled.test = s.test ∧
    (s.executor.phase ≠ .idle → s.polled.executor.phase = s.executor.phase) := by
  obtain ⟨hl, ht, hx⟩ := s.advanceTime.tickDelay_frame
  obtain ⟨gl, gt, gx⟩ := s.advanceTime.tickDelay.tickAbsolute_frame
  obtain ⟨kl, kt, kx⟩ := s.advanceTime.tickDelay.tickAbsolute.tickPoll_frame
  rw [gx, hx] at kx
  exact ⟨kl.trans (gl.trans hl), kt.trans (gt.trans ht), kx⟩

theorem State.polled_line (s : State) (K : LineNo) : s.polled.line K = s.line K := by
  unfold State.line
  rw [s.polled_frame.1]

/-- Closing the link periods leaves the lines, the engine and the executor as they are. -/
theorem State.foldl_closeLink_frame (gs : List LinkNo) (s : State) :
    (gs.foldl State.closeLink s).lines = s.lines ∧ (gs.foldl State.closeLink s).test = s.test ∧
    (gs.foldl State.closeLink s).executor = s.executor := by
  induction gs generalizing s with
  | nil => exact ⟨rfl, rfl, rfl⟩
  | cons g gs ih =>
    have h1 : (s.closeLink g).lines = s.lines ∧ (s.closeLink g).test = s.test ∧
        (s.closeLink g).executor = s.executor := by
      unfold State.closeLink
      dsimp only
      split
      · exact ⟨State.stage_lines .., (Within.stage ..).test, (Within.stage ..).executor⟩
      · exact ⟨rfl, rfl, rfl⟩
    obtain ⟨hl, ht, hx⟩ := ih (s.closeLink g)
    exact ⟨hl.trans h1.1, ht.trans h1.2.1, hx.trans h1.2.2⟩

/-- What a strobe instant answers, as the engine's millisecond leaves its lines, its engine and its executor. -/
structure StruckAs (s u t : State) : Prop where
  time : t.time = s.time + 1
  lines : t.lines = u.lines
  test : t.test = u.test
  executor : t.executor = u.executor

/-- A row that names the expiry of a timed step, in a state in which it comes about. -/
theorem State.strobeRow_of_testExpiry {u : State} {x : TestExpiry} (hlive : s.run.control.live = true)
    (hx : s.polled.tickTest = (u, x)) :
    ∃ t, s.strobeRow (fun r => decide (r.test = x)) = .next t ∧ StruckAs s u t := by
  have hdue : s.strobeInstant.2.test = x := by
    have hc : s.advanceTime.tickDelay.tickAbsolute.run.control.live = true := by
      rw [((Ticks.refl s.advanceTime).tickDelay.tickAbsolute).run]
      exact hlive
    simp only [State.strobeInstant, State.tickLive, hc, if_true]
    exact congrArg Prod.snd hx
  have hu : s.ticked = u := congrArg Prod.fst hx
  obtain ⟨hl, ht, he⟩ := State.foldl_closeLink_frame allLinks s.ticked
  refine ⟨s.ticked.closeLinks.settle, ?_, ?_, ?_, ?_, ?_⟩
  · rw [State.strobeRow, hdue, if_pos (decide_eq_true rfl), State.strobeInstant_of_live _ hlive]
  · rw [State.settle_time, State.closeLinks, (State.closeLinks_frame allLinks s.ticked).1, State.ticked_time]
  · rw [State.settle_lines, ← hu]
    exact hl
  · rw [State.settle_test, ← hu]
    exact ht
  · rw [State.settle_executor, ← hu]
    exact he

/-! ### The ends of the timed steps -/

theorem State.tickTest_settleEnd {ms : Nat} (h : s.test.step = .settle ms) (hm : 20 ≤ ms + 1) :
    s.tickTest = (s.beginTests, .settle) := by
  rw [State.tickTest, h]
  exact if_pos hm

theorem State.tickTest_stimulusWaitEnd {q : ResQ} {ms : Nat} (h : s.test.step = .stimulusWait q ms)
    (hm : 20 ≤ ms + 1) : s.tickTest = (s.setTest (s.test.beginSeries (.drive q)), .stimulusWait) := by
  rw [State.tickTest, h]
  exact if_pos hm

theorem State.tickTest_pulseEnd {ms : Nat} (h : s.test.step = .pulse ms) (hm : 10 ≤ ms + 1) :
    s.tickTest = (s.setTest (TestEngine.beginSingle { s.test with stimulus := .none } .v1), .pulse) := by
  rw [State.tickTest, h]
  exact if_pos hm

theorem State.tickTest_dischargeEnd {ms : Nat} {n : AfterDischarge} (h : s.test.step = .discharge ms n)
    (hm : 50 ≤ ms + 1) : s.tickTest = (s.dischargeEnd n, .discharge) := by
  rw [State.tickTest, h]
  exact if_pos hm

/-! ### The sub-test that begins -/

theorem State.beginTests_voltage (h : s.test.mask.testBit 0 = true) :
    s.beginTests.test = { s.test with phase := .measuring, step := .reading .tip, series := ⟨some .tip, 0, 0⟩ } := by
  have hm : maskHas s.test.mask 0 = true := h
  unfold State.beginTests
  simp only [State.setTest_test, hm, if_true]
  rfl

theorem State.beginTests_afterVoltage (h : s.test.mask.testBit 0 = false) :
    s.beginTests = State.afterVoltage (s.setTest { s.test with phase := .measuring, step := .idle }) := by
  have hm : maskHas s.test.mask 0 = false := h
  unfold State.beginTests
  simp only [State.setTest_test, hm]
  rfl

theorem State.beginTests_resistance (h : s.test.mask.testBit 0 = false) (h1 : s.test.mask.testBit 1 = true) :
    s.beginTests.test = { s.test with
      phase := .discharging, stimulus := .zero, step := .discharge 0 .resistance, series := ⟨none, 0, 0⟩ } := by
  have hm : maskHas s.test.mask 1 = true := h1
  rw [State.beginTests_afterVoltage h, State.afterVoltage]
  simp only [State.setTest_test, hm, if_true]
  rfl

theorem State.beginTests_capacitance (h : s.test.mask.testBit 0 = false) (h1 : s.test.mask.testBit 1 = false)
    (h2 : s.test.mask.testBit 2 = true) :
    s.beginTests.test = { s.test with
      phase := .discharging, stimulus := .zero, step := .discharge 0 .capacitance, series := ⟨none, 0, 0⟩ } := by
  have hm1 : maskHas s.test.mask 1 = false := h1
  have hm2 : maskHas s.test.mask 2 = true := h2
  rw [State.beginTests_afterVoltage h, State.afterVoltage]
  simp only [State.setTest_test, hm1]
  rw [if_neg nofun, State.afterResistance]
  simp only [State.setTest_test, hm2, if_true]
  rfl

/-! ### The end of a test -/

theorem State.completeOrder_executing {o : Order} {w : OrderWork} (h : s.executor.phase = .executing o w)
    (r : OrderResult) : s.completeOrder r = s.atPhase (.writeResult o r) := by
  unfold State.completeOrder
  rw [h]
  rfl

/-- The end of the close: the relays open, the line returned and the order completed (R31, R152). -/
theorem State.finishTest_executing {o : Order} {w : OrderWork} (hc : s.test.connection = some L)
    (hp : s.executor.phase = .executing o w) :
    ∃ data, s.finishTest = State.atPhase
      (State.returnLine (s.setTest { s.test with connection := none, phase := .idle, step := .idle, series := {} }) L)
      (.writeResult o ⟨if s.test.seized then 7 else 0, data⟩) := by
  refine ⟨s.test.testData (s.line L).sup.testReturn.hook, ?_⟩
  unfold State.finishTest
  simp only [hc]
  rw [State.completeOrder_executing (o := o) (w := w)]
  · rfl
  · exact (congrArg _ (Near.returnLine (.refl L _)).within.executor).trans hp

/-! ### The four rows -/

theorem State.testSettleEnd_begins {ms : Nat} (hlive : s.run.control.live = true) (h : s.test.step = .settle ms)
    (hm : 20 ≤ ms + 1) : ∃ t, exec .testSettleEnd s = .next t ∧ StruckAs s s.polled.beginTests t :=
  State.strobeRow_of_testExpiry hlive (State.tickTest_settleEnd (by rw [s.polled_frame.2.1, h]) hm)

theorem State.dischargeEnd_struck {ms : Nat} {n : AfterDischarge} (hlive : s.run.control.live = true)
    (h : s.test.step = .discharge ms n) (hm : 50 ≤ ms + 1) :
    ∃ t, exec .dischargeEnd s = .next t ∧ StruckAs s (s.polled.dischargeEnd n) t :=
  State.strobeRow_of_testExpiry hlive (State.tickTest_dischargeEnd (by rw [s.polled_frame.2.1, h]) hm)

/-- Settles O55: at its limit each timed step ends in the strobe instant, and the test goes on. -/
theorem timedTestStepsExpire : Obligations.TimedTestStepsExpire := by
  refine ⟨fun s ms hlive hs hm => ?_, fun s q ms hlive hs hm => ?_, fun s ms hlive hs hm => ?_,
    fun s ms hlive hs hm => ?_, fun s ms hlive hs hm => ?_, fun s ms L o w hlive hs hm hconn hexec => ?_⟩
  all_goals obtain ⟨hlines, htest, hphase⟩ := s.polled_frame
  · obtain ⟨t, he, k⟩ := State.testSettleEnd_begins hlive hs hm
    rw [← htest]
    exact ⟨t, he, k.time, fun h0 => k.test.trans (State.beginTests_voltage h0),
      fun h0 h1 => k.test.trans (State.beginTests_resistance h0 h1),
      fun h0 h1 h2 => k.test.trans (State.beginTests_capacitance h0 h1 h2)⟩
  · rw [← htest] at hs
    obtain ⟨t, he, k⟩ := State.strobeRow_of_testExpiry hlive (State.tickTest_stimulusWaitEnd hs hm)
    exact ⟨t, he, k.time, by rw [k.test, ← htest]; rfl, k.lines.trans hlines⟩
  · rw [← htest] at hs
    obtain ⟨t, he, k⟩ := State.strobeRow_of_testExpiry hlive (State.tickTest_pulseEnd hs hm)
    exact ⟨t, he, k.time, by rw [k.test, ← htest]; rfl, k.lines.trans hlines⟩
  · obtain ⟨t, he, k⟩ := State.dischargeEnd_struck hlive hs hm
    exact ⟨t, he, k.time, by rw [k.test, ← htest]; rfl, k.lines.trans hlines⟩
  · obtain ⟨t, he, k⟩ := State.dischargeEnd_struck hlive hs hm
    exact ⟨t, he, k.time, by rw [k.test, ← htest]; rfl, k.lines.trans hlines⟩
  · obtain ⟨t, he, k⟩ := State.dischargeEnd_struck hlive hs hm
    have hx : s.polled.executor.phase = .executing o w := (hphase (by rw [hexec]; nofun)).trans hexec
    have hc : s.polled.test.connection = some L := by rw [htest, hconn]
    obtain ⟨data, hf⟩ := State.finishTest_executing (s := s.polled.setTest { s.polled.test with
      stimulus := .none, charged := false, step := .idle, phase := .closing }) hc hx
    have hd : s.polled.dischargeEnd .close = _ := hf
    generalize hv : State.setTest (State.setTest s.polled _) _ = v at hd
    have hline : ∀ K, t.line K = (v.returnLine L).line K := fun K => by
      unfold State.line
      rw [k.lines, hd]
      rfl
    have hback := State.returnLine_line_self v L
    have hother := fun K (hK : K ≠ L) => State.returnLine_line_other (s := v) hK
    have hbase : ∀ K, v.line K = s.line K := fun K => by rw [← hv]; exact s.polled_line K
    have ht : t.test = { s.polled.test with
        stimulus := .none, charged := false, connection := none, phase := .idle, step := .idle, series := {} } := by
      rw [k.test, hd]
      exact (Near.returnLine (.refl L v)).within.test.trans (by rw [← hv]; rfl)
    refine ⟨t, he, k.time, congrArg (·.connection) ht, congrArg (·.stimulus) ht, congrArg (·.charged) ht,
      congrArg (·.phase) ht, congrArg (·.step) ht, ?_, ?_, ?_, fun K hK => ?_, data, ?_⟩
    · rw [hline, hback, hbase]
      cases (s.line L).sup.testReturn <;> rfl
    · rw [hline, hback]
    · rw [hline, hback, hbase]
    · rw [hline, hother K hK, hbase]
    · rw [k.executor, hd]
      show ExecPhase.writeResult o ⟨if s.polled.test.seized then 7 else 0, data⟩ = _
      rw [htest]

end Sys2Proof.Machine

/-! ## The good response to an access of the Order Executor (R128, R131, R181) -/

namespace Sys2Proof.Machine

variable {s t u : State} {L : LineNo}

/-- What a good response answers, as the executor's own step leaves the blocks it acts on: the work owed, the look owed
and the grant that follow it stay out of an order in execution. -/
structure Answers (u t : State) : Prop where
  time : t.time = u.time
  lines : t.lines = u.lines
  pool : t.pool = u.pool
  test : t.test = u.test
  queue : t.journal.queue = u.journal.queue
  executor : u.executor.phase ≠ .idle → t.executor = u.executor

theorem Answers.settle (h : Answers u t) : Answers u t.settle where
  time := (State.settle_time t).trans h.time
  lines := (State.settle_lines t).trans h.lines
  pool := (State.settle_pool t).trans h.pool
  test := (State.settle_test t).trans h.test
  queue := (State.settle_queue t).trans h.queue
  executor hp := (State.settle_executor t).trans (h.executor hp)

theorem Answers.line (h : Answers u t) (K : LineNo) : t.line K = u.line K := by
  unfold State.line
  rw [h.lines]

theorem Answers.refl (u : State) : Answers u u := ⟨rfl, rfl, rfl, rfl, rfl, fun _ => rfl⟩

theorem Answers.of_beginsWork (h : BeginsWork u t) : Answers u t := by
  refine ⟨?_, ?_, ?_, ?_, h.queue, fun _ => ?_⟩
  all_goals rw [h.rest]

theorem Answers.owedLook (h : Answers u t) : Answers u t.owedLook := by
  unfold State.owedLook
  split
  · rename_i hc
    exact ⟨h.time, h.lines, h.pool, h.test, h.queue, fun hp => absurd hc.2 (by rwa [h.executor hp])⟩
  · exact h

theorem Answers.returned (u : State) : Answers u u.returned := (Answers.of_beginsWork (.owedWork u)).owedLook

theorem State.inFlight_eq_some_iff (s : State) (a : Access) :
    s.inFlight = some a ↔
      s.run.port = .busy a true ∧ (s.run.control = .running ∨ s.run.control = .memoryError) := by
  unfold State.inFlight
  split
  · rename_i b h1 h2
    simp [h1, h2]
  · rename_i b h1 h2
    simp [h1, h2]
  · rename_i h1 h2
    constructor
    · nofun
    · rintro ⟨hp, hc | hc⟩
      · exact absurd hc (h1 a hp)
      · exact absurd hc (h2 a hp)

/-- A good response to a live access of the executor, in RUNNING or as the retry that ends MEMORY_ERROR: the executor
takes it in RUNNING, or in FROZEN if a freeze is asked. -/
theorem State.accessDone_executor {a : Access} {data : List Byte} (h : s.inFlight = some a)
    (hu : a.unit = .executor) (ha : a.answeredBy data = true) :
    ∃ r, r.control ≠ .stopping ∧ Answers ((s.setRun r).executorDone data) (s.accessDone data) := by
  obtain ⟨hp, hc⟩ := (s.inFlight_eq_some_iff a).mp h
  unfold State.accessDone
  simp only [hp, ha, hu, if_true]
  rcases hc with hc | hc
  · simp only [hc]
    refine ⟨s.freePort.run, ?_, (Answers.refl _).settle⟩
    show s.run.control ≠ _
    rw [hc]
    decide
  · simp only [hc]
    cases hf : s.run.freezeAsked
    · rw [State.retryDone_of_not_freeze (s := s.freePort) hf]
      exact ⟨{ s.freePort.run with failed := none, control := .running }, nofun, (Answers.returned _).settle⟩
    · rw [State.retryDone_of_freeze (s := s.freePort) hf]
      generalize hv : (s.freePort.setRun { s.freePort.run with failed := none }).enterFrozen = v
      have hs : v = s.setRun v.run := by rw [← hv]; rfl
      have hr : v.run.control = .frozen := by rw [← hv]; rfl
      exact ⟨v.run, by rw [hr]; decide, by rw [← hs]; exact (Answers.refl _).settle⟩

/-! ### The orders put in execution -/

theorem State.taking_eq_some {o : Order} (h : s.taking = some o) :
    ∃ a n, s.inFlight = some a ∧ a.unit = .executor ∧ a.write = true ∧ s.executor.phase = .takeWrite o n := by
  unfold State.taking at h
  split at h
  · rename_i a p n ha hp
    split at h
    · rename_i hw
      cases h
      exact ⟨a, n, ha, hw.1, hw.2, hp⟩
    · cases h
  · cases h

/-- A state that differs in the Run Control and, within the executor, in what a take changes; its list's next index is
one on, and its list is the current one (R125, R128). -/
structure Taking (s : State) (o : Order) (u : State) : Prop where
  rest : u = { s with run := u.run, executor := u.executor }
  next : u.executor.next o.list = (s.executor.next o.list + 1) % s.geometry.listLength o.list
  current : u.executor.current = o.list

theorem Executor.advance_next (e : Executor) (g : Geometry) (l : OrderList) :
    (e.advance g l).next l = (e.next l + 1) % g.listLength l := by cases l <;> rfl

theorem State.orderTaken_of_not_stopping (h : s.run.control ≠ .stopping) (o : Order) (n : Nat) :
    s.orderTaken o n = State.carryOut (s.setExecutor
      { s.executor.advance s.geometry o.list with current := o.list, served := n }) o := if_neg h

/-- The good response to a TAKEN write carries the order out (R128, R129). -/
theorem State.accessDone_taking {o : Order} (h : s.taking = some o) (data : List Byte) :
    ∃ u, Taking s o u ∧ Answers (u.carryOut o) (s.accessDone data) := by
  obtain ⟨a, n, ha, hu, hw, hp⟩ := State.taking_eq_some h
  obtain ⟨r, hr, k⟩ := State.accessDone_executor ha hu (Access.answeredBy_of_write data hw)
  refine ⟨(s.setRun r).setExecutor
    { s.executor.advance s.geometry o.list with current := o.list, served := n }, ⟨rfl, ?_, rfl⟩, ?_⟩
  · exact Eq.trans (by cases o.list <;> rfl) (s.executor.advance_next s.geometry o.list)
  · have hd : (s.setRun r).executorDone data = (s.setRun r).orderTaken o n := by
      rw [State.executorDone, show (s.setRun r).executor.phase = .takeWrite o n from hp]
    rwa [hd, State.orderTaken_of_not_stopping hr] at k

theorem State.takesFor_of_taking {o : Order} {k : OrderKind} (h : s.taking = some o) (hk : o.kind = some k)
    (hl : o.lineField = L.val) : s.takesFor k L = true := by
  simp [State.takesFor, h, hk, hl]

theorem State.takes_of_taking {o : Order} {k : OrderKind} (h : s.taking = some o) (hk : o.kind = some k) :
    s.takes k = true := by
  simp [State.takes, h, hk]

theorem Order.line_of_field {o : Order} (hl : o.lineField = L.val) : o.line = some L := by
  unfold Order.line
  rw [dif_pos (by rw [hl]; exact L.isLt)]
  exact congrArg some (Fin.ext hl)

theorem State.onLine_of_field {o : Order} (hl : o.lineField = L.val) (act : State → LineNo → State) :
    s.onLine o act = act s L := by
  rw [State.onLine, Order.line_of_field hl]

/-- The part of a taken order's state that the unit it acts on reads. -/
theorem Taking.atPhase {o : Order} (k : Taking s o u) (p : ExecPhase) : Taking s o (u.atPhase p) :=
  ⟨by rw [k.rest]; rfl, (by cases o.list <;> rfl : _ = _).trans k.next, k.current⟩

theorem Taking.line {o : Order} (k : Taking s o u) (K : LineNo) : u.line K = s.line K := by
  rw [k.rest]
  rfl

/-- An order that completes at once, after an edit of its line (R130, R132). -/
theorem Answers.completes {o : Order} {w : OrderWork} {v : State} {r : OrderResult}
    (hp : u.executor.phase = .executing o w) (hv : v.executor = u.executor)
    (h : Answers (v.completeOrder r) t) :
    t.time = v.time ∧ t.lines = v.lines ∧ t.pool = v.pool ∧ t.test = v.test ∧ t.journal.queue = v.journal.queue ∧
      t.executor = { u.executor with phase := .writeResult o r } := by
  rw [State.completeOrder_executing (hv ▸ hp)] at h
  exact ⟨h.time, h.lines, h.pool, h.test, h.queue, (h.executor nofun).trans (by rw [← hv]; rfl)⟩

end Sys2Proof.Machine

/-! ## BLOCK and UNBLOCK at their line (R29, R30, R132) -/

namespace Sys2Proof.Machine

variable {s t u : State} {L : LineNo}

/-! ### The baseline as it is set -/

theorem State.setBaseline_line_self (s : State) (L : LineNo) (b : Nat) (seeded : Bool) :
    (s.setBaseline L b seeded).line L =
      { s.line L with sup := (s.line L).sup.withBaseline (s.line L).profile b seeded } := by
  unfold State.setBaseline
  dsimp only
  split <;> exact State.line_setSup_self ..

theorem State.setBaseline_line_other {K : LineNo} (hK : K ≠ L) (b : Nat) (seeded : Bool) :
    (s.setBaseline L b seeded).line K = s.line K := by
  unfold State.setBaseline
  dsimp only
  split <;> exact (s.line_setSup L K _).trans (if_neg hK)

/-! ### The line events -/

theorem State.blockLine_onHook (h : (s.line L).sup.hook = .onHook) :
    s.blockLine L = (s.clearStartMark L).changeHook L .blocked := by
  simp only [State.blockLine, h]

theorem State.blockLine_parked (h : (s.line L).sup.hook = .parked) :
    s.blockLine L = (s.teardown L).changeHook L .blocked := by
  simp only [State.blockLine, h]

theorem State.blockLine_refused (h1 : (s.line L).sup.hook ≠ .onHook) (h2 : (s.line L).sup.hook ≠ .parked) :
    s.blockLine L = s := by
  unfold State.blockLine
  split
  · exact absurd ‹_› h1
  · exact absurd ‹_› h2
  · rfl

theorem Edits.blockLine (s : State) (L : LineNo) : Edits [.sup, .dec, .coll, .pool] s (s.blockLine L) := by
  unfold State.blockLine
  split
  · exact (Edits.refl.clearStartMark (by decide)).changeHook (by decide) _
  · exact (Edits.refl.teardown (by decide) (by decide) (by decide)).changeHook (by decide) _
  · exact .refl

theorem State.unblockLine_blocked (h : (s.line L).sup.hook = .blocked) :
    s.unblockLine L = ((s.changeHook L .onHook).askReseed L).clearBaseline L := by
  simp only [State.unblockLine, h]

theorem State.unblockLine_guard (h : (s.line L).sup.hook = .guard) :
    s.unblockLine L = s.setSup L { (s.line L).sup with guardReturn := .onHook } := by
  simp only [State.unblockLine, h]

theorem State.unblockLine_other (h1 : (s.line L).sup.hook ≠ .blocked) (h2 : (s.line L).sup.hook ≠ .guard) :
    s.unblockLine L = s := by
  unfold State.unblockLine
  split
  · exact absurd ‹_› h1
  · exact absurd ‹_› h2
  · rfl

theorem Edits.unblockLine (s : State) (L : LineNo) : Edits [.sup, .base] s (s.unblockLine L) := by
  unfold State.unblockLine
  split
  · exact ((Edits.refl.changeHook (by decide) _).askReseed).setBaseline (by decide) 0 false
  · exact Edits.refl.setSup (by decide) _
  · exact .refl

/-- A blocked line is ON_HOOK again, its reseed flag set and its baseline cleared (R30, R38, R39). -/
theorem State.unblockLine_line (h : (s.line L).sup.hook = .blocked) :
    (s.unblockLine L).line L = { s.line L with
      cond := { (s.line L).cond with reseed := true }
      sup := ({ (s.line L).sup with hook := .onHook } : Supervision).withBaseline (s.line L).profile 0 false
      marks := ((s.unblockLine L).line L).marks } := by
  have hask : ((s.changeHook L .onHook).askReseed L).line L = { s.line L with
      cond := { (s.line L).cond with reseed := true }
      sup := { (s.line L).sup with hook := .onHook }
      marks := ((s.changeHook L .onHook).line L).marks } := by
    unfold State.askReseed
    rw [State.line_setCond_self, State.changeHook_line_self]
  rw [State.unblockLine_blocked h, State.clearBaseline, State.setBaseline_line_self, hask]

theorem State.unblockLine_line_other {K : LineNo} (hK : K ≠ L) : (s.unblockLine L).line K = s.line K := by
  unfold State.unblockLine
  split
  · rw [State.clearBaseline, State.setBaseline_line_other hK, State.askReseed, State.line_setCond, if_neg hK,
      State.changeHook_line_other hK]
  · rw [State.line_setSup, if_neg hK]
  · rfl

/-! ### The orders -/

theorem oneByteData_eq (n : Nat) : oneByteData n = BitVec.ofNat 8 n :: List.replicate 26 0 := rfl

theorem State.carryOut_block {o : Order} (hk : o.kind = some .block) (hl : o.lineField = L.val) :
    u.carryOut o = (u.atPhase (.executing o .engine)).orderBlock L := by
  simp only [State.carryOut, hk, State.onLine_of_field hl]

theorem State.carryOut_unblock {o : Order} (hk : o.kind = some .unblock) (hl : o.lineField = L.val) :
    u.carryOut o = (u.atPhase (.executing o .engine)).orderUnblock L := by
  simp only [State.carryOut, hk, State.onLine_of_field hl]

/-- A BLOCK or UNBLOCK in execution: its line edited, its result given, nothing staged, the other lines left. -/
theorem State.accessDone_lineOrder {o : Order} {v : State} {r : OrderResult} (hu : Taking s o u)
    (hx : u.executor.phase = .executing o .engine) (he : Edits [.sup, .base, .dec, .coll, .pool] u v) (hn : Near L u v)
    (h : Answers (v.completeOrder r) t) :
    t.lines = v.lines ∧ t.pool = v.pool ∧ t.executor.phase = .writeResult o r ∧
      t.executor.next o.list = (s.executor.next o.list + 1) % s.geometry.listLength o.list ∧
      t.executor.current = o.list ∧ t.journal.queue = s.journal.queue ∧
      ∀ K, K ≠ L → (s.line K).sameButTime (t.line K) := by
  obtain ⟨_, hl, hp, _, hq, hex⟩ := Answers.completes hx hn.within.executor h
  refine ⟨hl, hp, by rw [hex], ?_, by rw [hex]; exact hu.current, ?_, fun K hK => ?_⟩
  · rw [hex, ← hu.next]
    cases o.list <;> rfl
  · rw [hq, he.journal (by decide), hu.rest]
  · have hk := hn.others K hK
    rwa [hu.line, show v.line K = t.line K by unfold State.line; rw [hl]] at hk

theorem Edits.mono {ps qs : List EditPart} (hs : ps ⊆ qs) (h : Edits ps s t) : Edits qs s t := by
  induction h with
  | refl => exact .refl
  | setLine _ L x k ih =>
    exact ih.setLine L x ⟨k.latches, k.timer, k.profile, fun hn => k.sup fun hp => hn (hs hp),
      fun hn => k.base fun hp => hn (hs hp), fun hn => k.dec fun hp => hn (hs hp),
      fun hn => k.coll fun hp => hn (hs hp), fun hn => k.fault fun hp => hn (hs hp)⟩
  | setReceiver _ hp r x ih => exact ih.setReceiver (hs hp) r x
  | setQueue _ hp q ih => exact ih.setQueue (hs hp) q
  | markUntimed _ K ih => exact ih.markUntimed K
  | stage _ hj l b v ih => exact ih.stage (hs hj) l b v

theorem Taking.poolSound {o : Order} (k : Taking s o u) (h : s.poolSound) : u.poolSound :=
  State.poolSound_of_pool (by rw [k.rest]) h

/-- What a BLOCK leaves of its line (R29). -/
theorem State.blockLine_parked_line (h : (s.line L).sup.hook = .parked) :
    ((s.blockLine L).line L).sup.hook = .blocked ∧ ((s.blockLine L).line L).dec.trainOpen = false ∧
      ((s.blockLine L).line L).coll = (s.line L).coll.abandoned ∧
      (s.poolSound → (s.blockLine L).served L = false) := by
  rw [State.blockLine_parked h, State.changeHook_line_self]
  refine ⟨rfl, s.teardown_trainOpen L, s.teardown_coll L, fun hs => ?_⟩
  rw [State.served_of_pool ((Edits.refl (ps := [.sup])).changeHook (by decide) _ |>.pool (by decide))]
  exact State.teardown_not_served hs

theorem State.orderRow_of_due {due : Bool} (h : due = true) (d : List Byte) :
    s.orderRow due d = .next (s.accessDone d) := by
  rw [State.orderRow, if_pos h]

/-- A BLOCK in execution (R29, R132). -/
theorem State.exec_block {o : Order} (ht : s.taking = some o) (hk : o.kind = some .block)
    (hl : o.lineField = L.val) :
    ∃ u, Taking s o u ∧ u.executor.phase = .executing o .engine ∧
      ∃ t, exec (.block L) s = .next t ∧ Answers (u.orderBlock L) t := by
  obtain ⟨v, hv, ha⟩ := State.accessDone_taking ht []
  rw [State.carryOut_block hk hl] at ha
  exact ⟨_, hv.atPhase _, rfl, _, State.orderRow_of_due (State.takesFor_of_taking ht hk hl) [], ha⟩

/-- An UNBLOCK in execution (R30, R132). -/
theorem State.exec_unblock {o : Order} (ht : s.taking = some o) (hk : o.kind = some .unblock)
    (hl : o.lineField = L.val) :
    ∃ u, Taking s o u ∧ u.executor.phase = .executing o .engine ∧
      ∃ t, exec (.unblock L) s = .next t ∧ Answers (u.orderUnblock L) t := by
  obtain ⟨v, hv, ha⟩ := State.accessDone_taking ht []
  rw [State.carryOut_unblock hk hl] at ha
  exact ⟨_, hv.atPhase _, rfl, _, State.orderRow_of_due (State.takesFor_of_taking ht hk hl) [], ha⟩

theorem State.line_of_lines (h : t.lines = s.lines) (K : LineNo) : t.line K = s.line K := by
  unfold State.line
  rw [h]

/-- Settles O49: each order acts on its line by the hook state it meets, and completes with that state. -/
theorem blockAndUnblockByHookState : Obligations.BlockAndUnblockByHookState := by
  refine ⟨fun s o L ht hk hl htest => ?_, fun s o L ht hk hl => ?_⟩
  · obtain ⟨u, hu, hx, t, he, ha⟩ := State.exec_block ht hk hl
    obtain ⟨hlines, hpool, hphase, hnext, hcur, hqueue, hoth⟩ := State.accessDone_lineOrder hu hx
      ((Edits.blockLine u L).mono (by decide)) (Near.blockLine (.refl L u)) ha
    have hline := State.line_of_lines hlines L
    rw [hu.line] at hphase
    refine ⟨t, he, ?_, ?_, hnext, hcur, hqueue, hoth⟩
    · rw [hphase, oneByteData_eq]
      cases (s.line L).sup.hook <;> rfl
    · rw [hline]
      split
      · rename_i hh
        rw [State.blockLine_onHook (by rwa [hu.line]), State.changeHook_line_self]
        exact ⟨rfl, by simp [State.clearStartMark]⟩
      · rename_i hh
        obtain ⟨h1, h2, h3, h4⟩ := State.blockLine_parked_line (s := u) (L := L) (by rwa [hu.line])
        rw [h3]
        exact ⟨h1, h2, rfl, rfl, fun hs => (State.served_of_pool hpool).trans (h4 (hu.poolSound hs))⟩
      · rename_i h1 h2
        rw [State.blockLine_refused (by rwa [hu.line]) (by rwa [hu.line]), hu.line]
  · obtain ⟨u, hu, hx, t, he, ha⟩ := State.exec_unblock ht hk hl
    obtain ⟨hlines, hpool, hphase, hnext, hcur, hqueue, -⟩ := State.accessDone_lineOrder hu hx
      ((Edits.unblockLine u L).mono (by decide)) (Near.unblockLine (.refl L u)) ha
    have hline := State.line_of_lines hlines L
    rw [hu.line] at hphase
    have hp : t.pool = s.pool := by rw [hpool, (Edits.unblockLine u L).pool (by decide), hu.rest]
    have hoth : ∀ K, K ≠ L → t.line K = s.line K := fun K hK => by
      rw [State.line_of_lines hlines, State.unblockLine_line_other hK, hu.line]
    refine ⟨t, he, hphase, ?_, hnext, hcur, hqueue, hp, hoth⟩
    rw [hline]
    split
    · rename_i hh
      rw [State.unblockLine_line (by rwa [hu.line]), hu.line]
      exact ⟨rfl, rfl, rfl, rfl, by simp [Supervision.withBaseline, tOnOf]⟩
    · rename_i hh
      rw [State.unblockLine_guard (by rwa [hu.line]), State.line_setSup_self, hu.line]
    · rename_i h1 h2
      rw [State.unblockLine_other (by rwa [hu.line]) (by rwa [hu.line]), hu.line]

end Sys2Proof.Machine

/-! ## LINE_TEST and SELF_CHECK put in execution (R142, R143, R154) -/

namespace Sys2Proof.Machine

variable {s t u : State} {L : LineNo}

/-- A change to another hook state marks the entry with the cabinet time (R42). -/
theorem State.changeHook_lastChange {h : Hook} (hh : (s.line L).sup.hook ≠ h) :
    ((s.changeHook L h).line L).marks.lastChange = s.time := by
  rw [State.changeHook, if_neg hh, State.line_markTimed, if_pos rfl]
  rfl

/-- The line connected to the test bus (R31, R143). -/
theorem State.connectLine_line (s : State) (L : LineNo) :
    (s.connectLine L).line L = { s.line L with
      sup := { (s.line L).sup with
        hook := .testing
        testReturn := if (s.line L).sup.hook = .blocked then .blocked else .onHook
        startMark := false }
      marks := ((s.connectLine L).line L).marks } := by
  unfold State.connectLine
  rw [State.changeHook_line_self, State.line_setSup_self]

theorem State.connectLine_lastChange (h : (s.line L).sup.hook ≠ .testing) :
    ((s.connectLine L).line L).marks.lastChange = s.time :=
  State.changeHook_lastChange (by rw [State.line_setSup_self]; exact h)

theorem Edits.connectLine (s : State) (L : LineNo) : Edits [.sup] s (s.connectLine L) :=
  (Edits.refl.setSup (by decide) _).changeHook (by decide) _

/-! ### Admission -/

theorem Hook.testAnswer_ok_iff (h : Hook) : h.testAnswer = .ok ↔ h = .onHook ∨ h = .blocked := by
  cases h <;> decide

theorem Hook.testAnswer_lineBusy {h : Hook} (hok : ¬(h = .onHook ∨ h = .blocked)) (hg : h ≠ .guard)
    (hn : h ≠ .notEquipped) : h.testAnswer = .lineBusy := by
  unfold Hook.testAnswer
  split
  · exact absurd (.inl rfl) hok
  · exact absurd (.inr rfl) hok
  · exact absurd rfl hg
  · exact absurd rfl hn
  · rfl

theorem State.admitTest_of_suspect (h : s.test.suspect = true) (m : Nat) :
    s.admitTest L m = s.completeOrder ⟨8, emptyData⟩ := if_pos h

theorem State.admitTest_admitted (h : s.test.suspect = false)
    (hh : (s.line L).sup.hook = .onHook ∨ (s.line L).sup.hook = .blocked) (m : Nat) :
    s.admitTest L m = (s.connectLine L).setTest (s.test.connected L (maskOf m)) := by
  simp only [State.admitTest, h, (Hook.testAnswer_ok_iff _).mpr hh]
  rfl

theorem State.admitTest_refused (h : s.test.suspect = false)
    (hh : ¬((s.line L).sup.hook = .onHook ∨ (s.line L).sup.hook = .blocked)) (m : Nat) :
    s.admitTest L m = s.completeOrder ⟨(s.line L).sup.hook.testAnswer.code, oneByteData (s.line L).sup.hook.code⟩ := by
  unfold State.admitTest
  rw [h, if_neg nofun]
  split
  · exact absurd ((Hook.testAnswer_ok_iff _).mp ‹_›) hh
  · rfl

theorem State.carryOut_lineTest {o : Order} (hk : o.kind = some .lineTest) (hl : o.lineField = L.val) :
    u.carryOut o = (u.atPhase (.executing o .engine)).admitTest L o.count := by
  simp only [State.carryOut, hk, State.onLine_of_field hl]

/-- A LINE_TEST in execution (R142). -/
theorem State.exec_lineTest {o : Order} (ht : s.taking = some o) (hk : o.kind = some .lineTest)
    (hl : o.lineField = L.val) :
    ∃ u, Taking s o u ∧ u.executor.phase = .executing o .engine ∧
      ∃ t, exec (.lineTest L) s = .next t ∧ Answers (u.admitTest L o.count) t := by
  obtain ⟨v, hv, ha⟩ := State.accessDone_taking ht []
  rw [State.carryOut_lineTest hk hl] at ha
  exact ⟨_, hv.atPhase _, rfl, _, State.orderRow_of_due (State.takesFor_of_taking ht hk hl) [], ha⟩

/-- A SELF_CHECK in execution (R154). -/
theorem State.exec_selfCheck {o : Order} (ht : s.taking = some o) (hk : o.kind = some .selfCheck) :
    ∃ u, Taking s o u ∧ u.executor.phase = .executing o .engine ∧
      ∃ t, exec .selfCheck s = .next t ∧ Answers u.beginCheck t := by
  obtain ⟨v, hv, ha⟩ := State.accessDone_taking ht []
  have hc : v.carryOut o = (v.atPhase (.executing o .engine)).beginCheck := by simp only [State.carryOut, hk]
  rw [hc] at ha
  exact ⟨_, hv.atPhase _, rfl, _, State.orderRow_of_due (State.takes_of_taking ht hk) [], ha⟩

theorem Taking.test {o : Order} (k : Taking s o u) : u.test = s.test := by rw [k.rest]

theorem Taking.queue {o : Order} (k : Taking s o u) : u.journal.queue = s.journal.queue := by rw [k.rest]

/-- A test that is not admitted completes with its line and the engine as they were. -/
theorem Taking.refused {o : Order} {r : OrderResult} (k : Taking s o u) (hx : u.executor.phase = .executing o .engine)
    (h : Answers (u.completeOrder r) t) :
    t.line L = s.line L ∧ t.test = s.test ∧ t.executor.phase = .writeResult o r ∧
      t.journal.queue = s.journal.queue := by
  obtain ⟨_, hl, _, ht, hq, he⟩ := Answers.completes hx rfl h
  exact ⟨(State.line_of_lines hl L).trans (k.line L), ht.trans k.test, by rw [he], hq.trans k.queue⟩

/-- Settles O54: the test is admitted or refused by the converter and the hook state; a SELF_CHECK begins at once. -/
theorem testAdmissionAndSelfCheckBegin : Obligations.TestAdmissionAndSelfCheckBegin := by
  refine ⟨fun s o L ht hk hl htest => ?_, fun s o ht hk => ?_⟩
  · obtain ⟨u, hu, hx, t, he, ha⟩ := State.exec_lineTest ht hk hl
    have hline := hu.line L
    refine ⟨t, he, ?_⟩
    cases hs : s.test.suspect
    · rw [if_neg nofun]
      split
      · rename_i hh
        rw [State.admitTest_admitted (by rw [hu.test, hs]) (by rwa [hline])] at ha
        have hw := (Near.connectLine (.refl L u)).within
        have hl : t.line L = (u.connectLine L).line L := ha.line L
        have htest' : t.test = u.test.connected L (maskOf o.count) := ha.test
        have hlast := State.connectLine_lastChange (s := u) (L := L) (by rwa [hline])
        have hx' : (u.connectLine L).executor.phase = .executing o .engine := by rw [hw.executor, hx]
        have hphase : t.executor.phase = .executing o .engine := by
          rw [ha.executor (by rw [State.setTest_executor, hx']; nofun), State.setTest_executor, hx']
        have hq : t.journal.queue = s.journal.queue := by
          rw [ha.queue, State.setTest_journal, (Edits.connectLine u L).journal (by decide)]
          exact hu.queue
        rw [hl, hlast, State.connectLine_line, hline, htest', hu.rest]
        exact ⟨⟨rfl, rfl, rfl, rfl, rfl, rfl, rfl, rfl, rfl, rfl, rfl, hs, rfl, rfl, rfl, rfl, hphase⟩, hq⟩
      · rename_i hh
        rw [State.admitTest_refused (by rw [hu.test, hs]) (by rwa [hline])] at ha
        obtain ⟨h1, h2, h3, h4⟩ := hu.refused (L := L) hx ha
        refine ⟨⟨h1, h2, ?_⟩, h4⟩
        rw [h3, hline, oneByteData_eq]
        split
        · rename_i hg
          rw [hg]
          rfl
        · rename_i hg
          rw [hg]
          rfl
        · rename_i hg hn
          rw [Hook.testAnswer_lineBusy hh hg hn]
          rfl
    · rw [State.admitTest_of_suspect (by rw [hu.test, hs])] at ha
      obtain ⟨h1, h2, h3, h4⟩ := hu.refused (L := L) hx ha
      exact ⟨⟨h1, h2, h3⟩, h4⟩
  · obtain ⟨u, hu, hx, t, he, ha⟩ := State.exec_selfCheck ht hk
    refine ⟨t, he, ?_, ?_, ?_, ha.queue.trans hu.queue⟩
    · rw [ha.test, ← hu.test]
      rfl
    · rw [ha.executor (by rw [State.beginCheck, State.setTest_executor, hx]; nofun)]
      exact hx
    · rw [ha.lines, hu.rest]
      rfl

end Sys2Proof.Machine

/-! ## A profile applied to its line (R34, R35, R38, R133 to R136) -/

namespace Sys2Proof.Machine

variable {s t u : State} {L : LineNo}

/-! ### A line as its profile disables it, before the report (R34) -/

/-- The supervision record of a line put back to its return states and without start mark. -/
def State.clearReturns (s : State) (L : LineNo) : State :=
  s.setSup L { (s.line L).sup with guardReturn := .onHook, testReturn := .onHook, startMark := false }

/-- The line torn down, its conditions CLEAR, its timer stopped, NOT_EQUIPPED. -/
def State.disabledLine (s : State) (L : LineNo) : State :=
  ((((s.teardown L).clearFaults L).stopTimer L).clearReturns L).changeHook L .notEquipped

theorem State.disableLine_eq (s : State) (L : LineNo) :
    s.disableLine L = if (s.line L).sup.hook.inCall then
      (s.disabledLine L).stage (some L)
        (.onHook .disabled (s.line L).sup.hook.isParked (s.line L).coll.uncompleted s.time)
    else s.disabledLine L := rfl

theorem Edits.clearReturns (h : Edits [.sup, .stage] s t) : Edits [.sup, .stage] s (t.clearReturns L) :=
  h.setSup (by decide) _

/-! ### What keeps the marks FOUND_AT_START and PROFILE_CLAMPED -/

/-- Line `L` has in `t` the marks FOUND_AT_START and PROFILE_CLAMPED that it has in `s`. -/
structure State.SameFlags (L : LineNo) (s t : State) : Prop where
  found : (t.line L).marks.foundAtStart = (s.line L).marks.foundAtStart
  clamped : (t.line L).marks.profileClamped = (s.line L).marks.profileClamped

namespace State.SameFlags

theorem refl (L : LineNo) (s : State) : SameFlags L s s := ⟨rfl, rfl⟩

theorem of_lines (h : SameFlags L s t) (hl : u.lines = t.lines) : SameFlags L s u := by
  obtain ⟨hf, hc⟩ := h
  rw [← State.line_of_lines hl] at hf hc
  exact ⟨hf, hc⟩

/-- A line written with both marks kept. -/
theorem setLine (h : SameFlags L s t) (K : LineNo) (x : Line)
    (hf : x.marks.foundAtStart = (t.line K).marks.foundAtStart)
    (hc : x.marks.profileClamped = (t.line K).marks.profileClamped) : SameFlags L s (t.setLine K x) := by
  have hx : ∀ hK : L = K, (t.setLine K x).line L = x := fun hK => by rw [State.line_setLine, if_pos hK]
  by_cases hK : L = K
  · rw [← hK] at hf hc
    exact ⟨by rw [hx hK, hf, h.found], by rw [hx hK, hc, h.clamped]⟩
  · have ho : (t.setLine K x).line L = t.line L := (t.line_setLine K L x).trans (if_neg hK)
    exact ⟨by rw [ho, h.found], by rw [ho, h.clamped]⟩

theorem setSup (h : SameFlags L s t) (K : LineNo) (x : Supervision) : SameFlags L s (t.setSup K x) :=
  h.setLine K _ rfl rfl

theorem setDec (h : SameFlags L s t) (K : LineNo) (x : PulseDecoder) : SameFlags L s (t.setDec K x) :=
  h.setLine K _ rfl rfl

theorem setColl (h : SameFlags L s t) (K : LineNo) (x : Collection) : SameFlags L s (t.setColl K x) :=
  h.setLine K _ rfl rfl

theorem setCond (h : SameFlags L s t) (K : LineNo) (x : Conditioner) : SameFlags L s (t.setCond K x) :=
  h.setLine K _ rfl rfl

theorem setFault (h : SameFlags L s t) (K : LineNo) (x : FaultRecord) : SameFlags L s (t.setFault K x) :=
  h.setLine K _ rfl rfl

theorem setQueue (h : SameFlags L s t) (q : List QueueEntry) : SameFlags L s (t.setQueue q) := h.of_lines rfl

theorem setReceiver (h : SameFlags L s t) (r : RxNo) (x : Receiver) : SameFlags L s (t.setReceiver r x) := h.of_lines rfl

theorem markUntimed (h : SameFlags L s t) (K : LineNo) : SameFlags L s (t.markUntimed K) := ⟨h.found, h.clamped⟩

theorem markTimed (h : SameFlags L s t) (K : LineNo) : SameFlags L s (t.markTimed K) :=
  (h.setLine K { t.line K with marks := { (t.line K).marks with lastChange := t.time } } rfl rfl).markUntimed K

theorem stage (h : SameFlags L s t) (l : Option LineNo) (b : RecordBody) (v : Bool) : SameFlags L s (t.stage l b v) :=
  h.of_lines (State.stage_lines ..)

theorem attach (h : SameFlags L s t) (r : RxNo) (K : LineNo) : SameFlags L s (t.attach r K) :=
  (h.setReceiver r _).markTimed K

theorem request (h : SameFlags L s t) (K : LineNo) : SameFlags L s (t.request K) := by
  unfold State.request
  split
  · exact h
  · split
    · exact h.attach _ K
    · exact (h.setQueue _).markTimed K

theorem handOver (h : SameFlags L s t) (r : RxNo) : SameFlags L s (t.handOver r) := by
  unfold State.handOver
  split
  · exact h
  · exact (h.setQueue _).attach r _

theorem release (h : SameFlags L s t) (K : LineNo) : SameFlags L s (t.release K) := by
  unfold State.release
  split
  · rename_i r _
    have h1 := (h.setReceiver r (t.receiver r).detached).markTimed K
    unfold State.detach
    dsimp only
    split
    · exact h1
    · exact h1.handOver r
  · split
    · exact (h.setQueue _).markTimed K
    · exact h

theorem dropTrain (h : SameFlags L s t) (K : LineNo) : SameFlags L s (t.dropTrain K) := by
  unfold State.dropTrain
  split
  · exact h.setDec K _
  · exact h

theorem abandon (h : SameFlags L s t) (K : LineNo) : SameFlags L s (t.abandon K) := by
  unfold State.abandon
  dsimp only
  split
  · exact h.setColl K _
  · exact (h.setColl K _).markTimed K

theorem teardown (h : SameFlags L s t) (K : LineNo) : SameFlags L s (t.teardown K) :=
  ((h.dropTrain K).release K).abandon K

theorem openCollection (h : SameFlags L s t) (K : LineNo) (b : Bool) : SameFlags L s (t.openCollection K b) :=
  (h.setColl K _).markTimed K

theorem storeCondition (h : SameFlags L s t) (K : LineNo) (c : Condition) (r : CondRecord) :
    SameFlags L s (t.storeCondition K c r) := by
  unfold State.storeCondition
  dsimp only
  split
  · exact h.setFault K _
  · exact (h.setFault K _).markTimed K

theorem clearFaults (h : SameFlags L s t) (K : LineNo) : SameFlags L s (t.clearFaults K) := by
  unfold State.clearFaults
  dsimp only
  split
  · exact h.setFault K _
  · exact (h.setFault K _).markTimed K

theorem setBaseline (h : SameFlags L s t) (K : LineNo) (b : Nat) (x : Bool) :
    SameFlags L s (t.setBaseline K b x) := by
  unfold State.setBaseline
  dsimp only
  split
  · exact h.setSup K _
  · exact (h.setSup K _).markUntimed K

theorem refreshLine (h : SameFlags L s t) (K : LineNo) : SameFlags L s (t.refreshLine K) :=
  (h.setBaseline K _ _).setDec K _

theorem loseTone (h : SameFlags L s t) (K : LineNo) (a b : Profile) : SameFlags L s (t.loseTone K a b) := by
  unfold State.loseTone
  split
  · exact h.release K
  · exact h

end State.SameFlags

/-- A change of hook state keeps PROFILE_CLAMPED. -/
theorem State.changeHook_clamped (s : State) (L : LineNo) (h : Hook) :
    ((s.changeHook L h).line L).marks.profileClamped = (s.line L).marks.profileClamped := by
  unfold State.changeHook
  split
  · rfl
  · simp [State.line_markTimed]

theorem State.enableLine_clamped (s : State) (L : LineNo) :
    ((s.enableLine L).line L).marks.profileClamped = (s.line L).marks.profileClamped :=
  (((SameFlags.refl L (s.changeHook L .onHook)).setCond L _).setBaseline L 0 false |>.setSup L _).clamped.trans
    (s.changeHook_clamped L _)

theorem State.disableLine_clamped (s : State) (L : LineNo) :
    ((s.disableLine L).line L).marks.profileClamped = (s.line L).marks.profileClamped := by
  have f : SameFlags L s ((((s.teardown L).clearFaults L).stopTimer L).clearReturns L) :=
    ((((SameFlags.refl L s).teardown L).clearFaults L).setSup L _).setSup L _
  have h1 : ((s.disabledLine L).line L).marks.profileClamped = (s.line L).marks.profileClamped := by
    unfold State.disabledLine
    rw [State.changeHook_clamped, f.clamped]
  rw [State.disableLine_eq]
  split
  · rw [State.stage_line, h1]
  · exact h1

/-! ### The new copy -/

/-- The line with its new copy and its mark, before the copy acts on it (R134). -/
def State.copied (s : State) (L : LineNo) (bs : List Byte) : State :=
  (s.setProfile L (parseProfile bs)).markClamped L (decide (0 < profileClamped bs))

theorem State.copied_line (s : State) (L : LineNo) (bs : List Byte) :
    (s.copied L bs).line L = { s.line L with
      profile := parseProfile bs
      marks := { (s.line L).marks with profileClamped := decide (0 < profileClamped bs) } } := by
  have h1 : ∀ u : State, (u.markUntimed L).line L = u.line L := fun _ => rfl
  unfold State.copied State.markClamped
  dsimp only
  split <;> simp [h1]

theorem State.copied_pool (s : State) (L : LineNo) (bs : List Byte) : (s.copied L bs).pool = s.pool := by
  unfold State.copied State.markClamped
  dsimp only
  split <;> rfl

theorem Near.copied (s : State) (L : LineNo) (bs : List Byte) : Near L s (s.copied L bs) := by
  have h1 : Near L s (s.setProfile L (parseProfile bs)) := (Near.refl L s).setProfile _
  unfold State.copied State.markClamped
  dsimp only
  split
  · exact h1.setMarks _
  · exact (h1.setMarks _).markUntimed L

theorem State.applyProfile_enables {bs : List Byte} (hh : (s.line L).sup.hook = .notEquipped)
    (he : (parseProfile bs).enabled = true) : s.applyProfile L bs = (s.copied L bs).enableLine L := by
  unfold State.applyProfile
  simp only [hh, he, if_true]
  rfl

theorem State.applyProfile_stays_disabled {bs : List Byte} (hh : (s.line L).sup.hook = .notEquipped)
    (he : (parseProfile bs).enabled = false) : s.applyProfile L bs = s.copied L bs := by
  unfold State.applyProfile
  simp only [hh, he, if_true]
  rfl

theorem State.applyProfile_refreshes {bs : List Byte} (hh : (s.line L).sup.hook ≠ .notEquipped)
    (he : (parseProfile bs).enabled = true) :
    s.applyProfile L bs = ((s.copied L bs).refreshLine L).loseTone L (s.line L).profile (parseProfile bs) := by
  unfold State.applyProfile
  simp only [hh, he, if_true, if_false]
  rfl

theorem State.applyProfile_disables {bs : List Byte} (hh : (s.line L).sup.hook ≠ .notEquipped)
    (he : (parseProfile bs).enabled = false) :
    s.applyProfile L bs = ((s.copied L bs).disableLine L).loseTone L (s.line L).profile (parseProfile bs) := by
  unfold State.applyProfile
  simp only [hh, he, if_false]
  rfl

/-! ### The line it leaves -/

theorem Edits.loseTone (s : State) (L : LineNo) (a b : Profile) : Edits [.pool] s (s.loseTone L a b) := by
  unfold State.loseTone
  split
  · exact Edits.refl.release (by decide) L
  · exact .refl

theorem State.loseTone_sup (s : State) (L K : LineNo) (a b : Profile) :
    ((s.loseTone L a b).line K).sup = (s.line K).sup := by
  have l := (Edits.loseTone s L a b).line K
  obtain ⟨hb, hs, hon, hoff⟩ := l.base (by decide)
  rw [l.sup (by decide), hb, hs, hon, hoff]

/-- A line that stays enabled has the thresholds of its present B (R35, R38) and its decoder by the new copy (R59). -/
theorem State.refreshLine_line (s : State) (L : LineNo) :
    (s.refreshLine L).line L = { s.line L with
      sup := (s.line L).sup.withBaseline (s.line L).profile (s.line L).sup.b (s.line L).sup.seeded
      dec := (s.line L).dec.reload (s.line L).profile } := by
  unfold State.refreshLine
  dsimp only
  rw [State.line_setDec_self, State.setBaseline_line_self]

theorem PulseDecoder.reload_trainOpen (d : PulseDecoder) {p : Profile} (h : p.dialMode = .tone) :
    (d.reload p).trainOpen = false := by
  unfold PulseDecoder.reload
  split
  · rfl
  · exact Bool.eq_false_iff.mpr ‹_›

theorem State.refreshLine_pool (s : State) (L : LineNo) : (s.refreshLine L).pool = s.pool :=
  ((Edits.refl (ps := [.base, .dec])).setBaseline (by decide) _ _).setDec (by decide) _ |>.pool (by decide)

/-- An enabled line is ON_HOOK unseeded, with the thresholds of B 0 (R35, R38). -/
theorem State.enableLine_line (s : State) (L : LineNo) :
    (s.enableLine L).line L = { s.line L with
      cond := { (s.line L).cond with reseed := true }
      sup := { ({ (s.line L).sup with hook := .onHook } : Supervision).withBaseline (s.line L).profile 0 false with
        startMark := false }
      marks := ((s.enableLine L).line L).marks } := by
  have hask : ((s.changeHook L .onHook).askReseed L).line L = { s.line L with
      cond := { (s.line L).cond with reseed := true }
      sup := { (s.line L).sup with hook := .onHook }
      marks := ((s.changeHook L .onHook).line L).marks } := by
    unfold State.askReseed
    rw [State.line_setCond_self, State.changeHook_line_self]
  unfold State.enableLine State.clearStartMark
  rw [State.line_setSup_self, State.clearBaseline, State.setBaseline_line_self, hask]

theorem Edits.clearFaults (s : State) (L : LineNo) : Edits [.fault] s (s.clearFaults L) := by
  unfold State.clearFaults
  dsimp only
  split
  · exact Edits.refl.setFault (by decide) _
  · exact (Edits.refl.setFault (by decide) _).markTimed L

theorem State.clearFaults_fault (s : State) (L : LineNo) : ((s.clearFaults L).line L).fault = (s.line L).fault.cleared := by
  unfold State.clearFaults
  dsimp only
  split <;> simp [State.line_markTimed]

/-- The line after its teardown and its conditions CLEAR: what is left of a disable is the Supervision Engine's record and
the report (R34). -/
theorem State.disableLine_after (s : State) (L : LineNo) :
    Edits [.sup, .stage] ((s.teardown L).clearFaults L) (s.disableLine L) := by
  have h1 : Edits [.sup, .stage] ((s.teardown L).clearFaults L) (s.disabledLine L) :=
    ((Edits.refl.stopTimer (by decide)).clearReturns).changeHook (by decide) _
  rw [State.disableLine_eq]
  split
  · exact h1.stage (by decide) _ _ _
  · exact h1

theorem State.disableLine_hook (s : State) (L : LineNo) : ((s.disableLine L).line L).sup.hook = .notEquipped := by
  have h1 : ((s.disabledLine L).line L).sup.hook = .notEquipped := by
    unfold State.disabledLine
    rw [State.changeHook_hook]
  rw [State.disableLine_eq]
  split
  · rw [State.stage_line, h1]
  · exact h1

/-- A disabled line has no train, no collection and no condition, and no receiver or place (R34). -/
theorem State.disableLine_line (s : State) (L : LineNo) :
    ((s.disableLine L).line L).dec.trainOpen = false ∧ ((s.disableLine L).line L).coll.state = .idle ∧
      ((s.disableLine L).line L).fault.allClear = true ∧ (s.poolSound → (s.disableLine L).served L = false) := by
  have ka := s.disableLine_after L
  have kf := Edits.clearFaults (s.teardown L) L
  have l := ka.line L
  have m := kf.line L
  refine ⟨?_, ?_, ?_, fun hs => ?_⟩
  · rw [l.dec (by decide), m.dec (by decide), State.teardown_trainOpen]
  · rw [l.coll (by decide), m.coll (by decide), State.teardown_coll]
    rfl
  · rw [l.fault (by decide), State.clearFaults_fault, FaultRecord.cleared_allClear]
  · rw [State.served_of_pool (ka.pool (by decide)), State.served_of_pool (kf.pool (by decide))]
    exact State.teardown_not_served hs

/-- A release takes nothing from a line with neither a receiver nor a place (R70). -/
theorem State.release_of_not_served (h : s.served L = false) : s.release L = s := by
  have hq : s.receiverOf L = none ∧ s.queued L = false := by
    simpa [State.served] using h
  rw [State.release, hq.1]
  simp [hq.2]

theorem State.loseTone_of_not_served (h : s.served L = false) (a b : Profile) : s.loseTone L a b = s := by
  unfold State.loseTone
  split
  · exact State.release_of_not_served h
  · rfl

/-- A profile that takes TONE away takes the receiver or the place (R136). -/
theorem State.loseTone_not_served {a b : Profile} (ha : a.dialMode ≠ .pulse) (hb : b.dialMode = .pulse)
    (hs : s.poolSound) : (s.loseTone L a b).served L = false := by
  have hta : a.dialMode.hasTone = true := by
    unfold DialMode.hasTone
    split
    · exact absurd ‹_› ha
    · rfl
  rw [State.loseTone, if_pos ⟨hta, by rw [hb]; rfl⟩]
  exact State.release_not_served hs

/-! ### The profile applied -/

theorem State.applyProfile_cases (s : State) (L : LineNo) (bs : List Byte) :
    s.applyProfile L bs = (s.copied L bs).enableLine L ∨ s.applyProfile L bs = s.copied L bs ∨
      s.applyProfile L bs = ((s.copied L bs).refreshLine L).loseTone L (s.line L).profile (parseProfile bs) ∨
      s.applyProfile L bs = ((s.copied L bs).disableLine L).loseTone L (s.line L).profile (parseProfile bs) := by
  by_cases hh : (s.line L).sup.hook = .notEquipped <;> cases he : (parseProfile bs).enabled
  · exact .inr (.inl (State.applyProfile_stays_disabled hh he))
  · exact .inl (State.applyProfile_enables hh he)
  · exact .inr (.inr (.inr (State.applyProfile_disables hh he)))
  · exact .inr (.inr (.inl (State.applyProfile_refreshes hh he)))

theorem Near.loseTone (h : Near L s t) (a b : Profile) : Near L s (t.loseTone L a b) := by
  unfold State.loseTone
  split
  · exact h.release L
  · exact h

theorem Near.refreshLine (h : Near L s t) : Near L s (t.refreshLine L) := (h.setBaseline _ _).setDec _

theorem Near.applyProfile (s : State) (L : LineNo) (bs : List Byte) : Near L s (s.applyProfile L bs) := by
  have h := Near.copied s L bs
  rcases s.applyProfile_cases L bs with e | e | e | e <;> rw [e]
  · exact h.enableLine
  · exact h
  · exact h.refreshLine.loseTone ..
  · exact h.disableLine.loseTone ..

theorem State.applyProfile_clamped (s : State) (L : LineNo) (bs : List Byte) :
    ((s.applyProfile L bs).line L).marks.profileClamped = ((s.copied L bs).line L).marks.profileClamped := by
  rcases s.applyProfile_cases L bs with e | e | e | e <;> rw [e]
  · exact State.enableLine_clamped ..
  · exact (((State.SameFlags.refl L _).refreshLine L).loseTone ..).clamped
  · exact ((State.SameFlags.refl L _).loseTone ..).clamped.trans (State.disableLine_clamped ..)

/-- The line holds the new copy and its mark (R134). -/
theorem State.applyProfile_profile (s : State) (L : LineNo) (bs : List Byte) :
    ((s.applyProfile L bs).line L).profile = parseProfile bs ∧
      ((s.applyProfile L bs).line L).marks.profileClamped = decide (0 < profileClamped bs) := by
  have hc := s.copied_line L bs
  refine ⟨?_, (s.applyProfile_clamped L bs).trans (by rw [hc])⟩
  rcases s.applyProfile_cases L bs with e | e | e | e <;> rw [e]
  · rw [State.enableLine_line, hc]
  · rw [hc]
  · rw [((Edits.loseTone _ L _ _).line L).profile, State.refreshLine_line, hc]
  · rw [((Edits.loseTone _ L _ _).line L).profile, ((s.copied L bs).disableLine_after L |>.line L).profile,
      ((Edits.clearFaults _ L).line L).profile,
      ((Edits.refl (ps := [.dec, .coll, .pool])).teardown (by decide) (by decide) (by decide) |>.line L).profile, hc]

/-- The thresholds of an enabled line are those of its baseline under the new copy (R35, R38). -/
theorem State.applyProfile_thresholds {bs : List Byte} (he : (parseProfile bs).enabled = true) :
    ((s.applyProfile L bs).line L).sup.tOn = tOnOf (parseProfile bs) ((s.applyProfile L bs).line L).sup.b ∧
      ((s.applyProfile L bs).line L).sup.tOff = tOffOf (parseProfile bs) ((s.applyProfile L bs).line L).sup.tOn := by
  have hc := s.copied_line L bs
  by_cases hh : (s.line L).sup.hook = .notEquipped
  · rw [State.applyProfile_enables hh he, State.enableLine_line, hc]
    exact ⟨rfl, rfl⟩
  · rw [State.applyProfile_refreshes hh he, State.loseTone_sup, State.refreshLine_line, hc]
    simp only [Supervision.withBaseline, and_self]

/-- A lost TONE takes the receiver or the place (R136). -/
theorem State.applyProfile_not_served {bs : List Byte} (hh : (s.line L).sup.hook ≠ .notEquipped)
    (ho : (s.line L).profile.dialMode ≠ .pulse) (hn : (parseProfile bs).dialMode = .pulse) (hs : s.poolSound) :
    (s.applyProfile L bs).served L = false := by
  have hcs : (s.copied L bs).poolSound := State.poolSound_of_pool (State.copied_pool s L bs) hs
  cases he : (parseProfile bs).enabled
  · rw [State.applyProfile_disables hh he, State.loseTone_of_not_served]
    all_goals exact (State.disableLine_line (s.copied L bs) L).2.2.2 hcs
  · rw [State.applyProfile_refreshes hh he]
    exact State.loseTone_not_served ho hn (State.poolSound_of_pool
      (State.refreshLine_pool _ L) hcs)

/-- A line that becomes enabled (R35). -/
theorem State.applyProfile_enabled_line {bs : List Byte} (hh : (s.line L).sup.hook = .notEquipped)
    (he : (parseProfile bs).enabled = true) :
    ((s.applyProfile L bs).line L).sup.hook = .onHook ∧ ((s.applyProfile L bs).line L).cond.reseed = true ∧
      ((s.applyProfile L bs).line L).sup.seeded = false ∧ ((s.applyProfile L bs).line L).sup.b = 0 ∧
      ((s.applyProfile L bs).line L).sup.startMark = false := by
  rw [State.applyProfile_enables hh he, State.enableLine_line]
  exact ⟨rfl, rfl, rfl, rfl, rfl⟩

/-- A line that stays enabled (R35, R59). -/
theorem State.applyProfile_refreshed_line {bs : List Byte} (hh : (s.line L).sup.hook ≠ .notEquipped)
    (he : (parseProfile bs).enabled = true) :
    ((s.applyProfile L bs).line L).sup.hook = (s.line L).sup.hook ∧
      ((s.applyProfile L bs).line L).sup.b = (s.line L).sup.b ∧
      ((parseProfile bs).dialMode = .tone → ((s.applyProfile L bs).line L).dec.trainOpen = false) := by
  have k := Edits.loseTone ((s.copied L bs).refreshLine L) L (s.line L).profile (parseProfile bs)
  rw [State.applyProfile_refreshes hh he, State.loseTone_sup, (k.line L).dec (by decide), State.refreshLine_line,
    State.copied_line]
  simp only [Supervision.withBaseline, true_and]
  exact PulseDecoder.reload_trainOpen _

/-- A line that becomes disabled (R34). -/
theorem State.applyProfile_disabled_line {bs : List Byte} (hh : (s.line L).sup.hook ≠ .notEquipped)
    (he : (parseProfile bs).enabled = false) :
    ((s.applyProfile L bs).line L).sup.hook = .notEquipped ∧ ((s.applyProfile L bs).line L).dec.trainOpen = false ∧
      ((s.applyProfile L bs).line L).coll.state = .idle ∧ ((s.applyProfile L bs).line L).fault.allClear = true ∧
      (s.poolSound → (s.applyProfile L bs).served L = false) := by
  have l := (Edits.loseTone ((s.copied L bs).disableLine L) L (s.line L).profile (parseProfile bs)).line L
  obtain ⟨htrain, hcoll, hclear, hserved⟩ := State.disableLine_line (s.copied L bs) L
  rw [State.applyProfile_disables hh he, State.loseTone_sup, State.disableLine_hook, l.dec (by decide),
    l.coll (by decide), l.fault (by decide)]
  refine ⟨rfl, htrain, hcoll, hclear, fun hs => ?_⟩
  have hn := hserved (State.poolSound_of_pool (State.copied_pool s L bs) hs)
  rwa [State.loseTone_of_not_served hn]

/-! ### The order -/

/-- A good response to a read of an order in execution (R133, R137, R138). -/
theorem State.accessDone_workRead {a : Access} {data : List Byte} {o : Order} {w : OrderWork}
    (h : s.inFlight = some a) (hu : a.unit = .executor) (hd : data.length = a.length)
    (hp : s.executor.phase = .executing o w) :
    ∃ r, Answers ((s.setRun r).workRead o data w) (s.accessDone data) := by
  obtain ⟨r, -, k⟩ := State.accessDone_executor h hu (data := data) (by simp [Access.answeredBy, hd])
  refine ⟨r, ?_⟩
  have he : (s.setRun r).executorDone data = (s.setRun r).workRead o data w := by
    rw [State.executorDone, show (s.setRun r).executor.phase = .executing o w from hp]
  rwa [he] at k

/-- The order goes on to its next line, or completes with its three counts (R133). -/
theorem State.profileRead_eq {o : Order} {w : OrderWork} (hp : s.executor.phase = .executing o w)
    (left applied lines fields : Nat) (data : List Byte) :
    s.profileRead o L.val left applied lines fields data = (s.applyProfile L data).atPhase
      (if left ≤ 1 then
        .writeResult o ⟨0, resultData [byteField 0x05 (applied + 1),
          byteField 0x06 (if profileClamped data = 0 then lines else lines + 1),
          halfField 0x08 (fields + profileClamped data)]⟩
      else .executing o (.profiles (L.val + 1) (left - 1) (applied + 1)
        (if profileClamped data = 0 then lines else lines + 1) (fields + profileClamped data))) := by
  have hx : (s.applyProfile L data).executor.phase = .executing o w :=
    (congrArg _ (Near.applyProfile s L data).within.executor).trans hp
  unfold State.profileRead
  rw [dif_pos L.isLt]
  dsimp only
  split
  · rw [State.completeOrder_executing hx]
    rfl
  · rfl

theorem State.carryOut_reloadProfiles {o : Order} (hk : o.kind = some .reloadProfiles) :
    u.carryOut o = if o.rangeFits then u.atPhase (.executing o (.profiles o.lineField o.count 0 0 0))
      else (u.atPhase (.executing o .engine)).failCheck resultBadLine := by
  simp only [State.carryOut, hk]

/-- Settles O52: the range check, and each line's profile applied by the hook state it meets. -/
theorem profileReloadActsLineByLine : Obligations.ProfileReloadActsLineByLine := by
  refine ⟨fun s o data ht hk => ?_, fun s a data o L left applied lines fields hf hu hw hd hp => ?_⟩
  · obtain ⟨v, hv, ha⟩ := State.accessDone_taking ht data
    refine ⟨_, State.orderRow_of_due (by rw [State.takes_of_taking ht hk]; rfl) data, ?_⟩
    rw [State.carryOut_reloadProfiles hk] at ha
    have hlines : v.lines = s.lines := by rw [hv.rest]
    by_cases hr : 1 ≤ o.count ∧ o.count ≤ 96 ∧ o.lineField + o.count ≤ 96
    · rw [if_pos (by simpa [Order.rangeFits, and_assoc] using hr)] at ha
      rw [if_pos hr, ha.executor nofun]
      exact ⟨rfl, ha.lines.trans hlines⟩
    · rw [if_neg (by simpa [Order.rangeFits, and_assoc] using hr)] at ha
      obtain ⟨-, hl, -, -, -, hex⟩ := Answers.completes (v := v.atPhase (.executing o .engine)) rfl rfl ha
      rw [if_neg hr, hex]
      exact ⟨rfl, hl.trans hlines⟩
  · obtain ⟨r, ha⟩ := State.accessDone_workRead hf hu hd hp
    have hdue : s.reading OrderWork.isProfiles = true := by simp [State.reading, hf, hp, hu, hw, OrderWork.isProfiles]
    have hrun : ∀ K, (s.setRun r).line K = s.line K := fun _ => rfl
    rw [show (s.setRun r).workRead o data (.profiles L.val left applied lines fields) =
      (s.setRun r).profileRead o L.val left applied lines fields data from rfl,
      State.profileRead_eq (s := s.setRun r) (L := L) hp] at ha
    have hline : ∀ K, (s.accessDone data).line K = ((s.setRun r).applyProfile L data).line K := ha.line
    have hpool : (s.accessDone data).pool = ((s.setRun r).applyProfile L data).pool := ha.pool
    obtain ⟨hprof, hmark⟩ := (s.setRun r).applyProfile_profile L data
    refine ⟨_, State.orderRow_of_due (by rw [hdue, Bool.or_true]) data, ?_⟩
    simp only [hline]
    refine ⟨hprof, hmark, ?_, fun he => ?_, fun hh ho hn hs => ?_, ?_, fun K hK => ?_⟩
    · cases he : (parseProfile data).enabled
      · split
        · rename_i hh
          rw [if_neg nofun, State.applyProfile_stays_disabled (s := s.setRun r) hh he, State.copied_line]
          exact hh
        · rename_i hh
          rw [if_neg nofun, State.served_of_pool hpool]
          exact State.applyProfile_disabled_line (s := s.setRun r) hh he
      · split
        · rename_i hh
          rw [if_pos rfl]
          exact State.applyProfile_enabled_line (s := s.setRun r) hh he
        · rename_i hh
          rw [if_pos rfl]
          exact State.applyProfile_refreshed_line (s := s.setRun r) hh he
    · exact State.applyProfile_thresholds he
    · rw [State.served_of_pool hpool]
      exact State.applyProfile_not_served (s := s.setRun r) hh ho hn hs
    · rw [ha.executor (by split <;> nofun)]
      by_cases hleft : left ≤ 1 <;> simp only [hleft, if_true, if_false] <;> rfl
    · exact (Near.applyProfile (s.setRun r) L data).others K hK

end Sys2Proof.Machine

/-! ## The exclusivity of the pool is maintained (R67, R68, R70, R74) -/

namespace Sys2Proof.Machine

variable {s t : State} {L : LineNo}

/-- Taking receivers and places away keeps the pool sound. -/
theorem State.poolSound_of_fewer (h : s.poolSound) (hr : ∀ r K, (t.receiver r).serves K → (s.receiver r).serves K)
    (hq : (t.pool.queue.map QueueEntry.line).Sublist (s.pool.queue.map QueueEntry.line)) :
    t.poolSound := by
  obtain ⟨hone, hnodup, hplace⟩ := h
  refine ⟨fun r q K h1 h2 h3 h4 => ?_, hnodup.sublist hq, fun r e he h1 h2 => ?_⟩
  · obtain ⟨a1, a2⟩ := hr r K ⟨h1, h2⟩
    obtain ⟨b1, b2⟩ := hr q K ⟨h3, h4⟩
    exact hone r q K a1 a2 b1 b2
  · obtain ⟨a1, a2⟩ := hr r e.line ⟨h1, h2⟩
    obtain ⟨x, hx, hxe⟩ := List.mem_map.mp (hq.subset (List.mem_map_of_mem he))
    exact hplace r x hx a1 (by rw [hxe]; exact a2)

/-- A receiver written keeps the pool sound if it serves no new line. -/
theorem State.setReceiver_poolSound (r : RxNo) (x : Receiver) (hx : ∀ K, x.serves K → (s.receiver r).serves K)
    (h : s.poolSound) : (s.setReceiver r x).poolSound := by
  refine State.poolSound_of_fewer h (fun q K hs => ?_) (List.Sublist.refl _)
  rw [State.receiver_setReceiver] at hs
  split at hs
  · rename_i hq
    rw [hq]
    exact hx K hs
  · exact hs

/-- A receiver attached to a line that has none and waits for none. -/
theorem State.attach_poolSound (r : RxNo) (hn : s.served L = false) (h : s.poolSound) : (s.attach r L).poolSound := by
  obtain ⟨hone, hnodup, hplace⟩ := h
  obtain ⟨hfree, hwaits⟩ := State.served_eq_false_iff.mp hn
  have hself : ((s.receiver r).attachTo L).line = some L := rfl
  refine ⟨fun a b K h1 h2 h3 h4 => ?_, hnodup, fun a e he h1 h2 => ?_⟩
  · by_cases ha : a = r <;> by_cases hb : b = r
    · rw [ha, hb]
    · rw [ha, State.attach_receiver_self, hself] at h2
      rw [State.attach_receiver_other hb] at h3 h4
      exact absurd ⟨h3, h4.trans h2.symm⟩ (hfree b)
    · rw [hb, State.attach_receiver_self, hself] at h4
      rw [State.attach_receiver_other ha] at h1 h2
      exact absurd ⟨h1, h2.trans h4.symm⟩ (hfree a)
    · rw [State.attach_receiver_other ha] at h1 h2
      rw [State.attach_receiver_other hb] at h3 h4
      exact hone a b K h1 h2 h3 h4
  · by_cases ha : a = r
    · rw [ha, State.attach_receiver_self, hself] at h2
      exact hwaits e he (Option.some.inj h2).symm
    · rw [State.attach_receiver_other ha] at h1 h2
      exact hplace a e he h1 h2

theorem State.handOver_poolSound (r : RxNo) (h : s.poolSound) : (s.handOver r).poolSound := by
  unfold State.handOver
  split
  · exact h
  · rename_i e q hq
    have hsub : (s.setQueue q).poolSound :=
      State.poolSound_of_fewer h (fun _ _ hs => hs) (by rw [hq]; exact (List.sublist_cons_self ..).map _)
    refine State.attach_poolSound r (State.served_eq_false_iff.mpr ⟨fun k hk => ?_, fun x hx hxe => ?_⟩) hsub
    · exact h.2.2 k e (by rw [hq]; exact List.mem_cons_self) hk.1 hk.2
    · have hnodup := h.2.1
      rw [hq, List.map_cons, List.nodup_cons] at hnodup
      exact hnodup.1 (hxe ▸ List.mem_map_of_mem hx)

theorem State.request_poolSound (L : LineNo) (h : s.poolSound) : (s.request L).poolSound := by
  unfold State.request
  split
  · exact h
  · rename_i hn
    rw [Bool.not_eq_true] at hn
    obtain ⟨hfree, hwaits⟩ := State.served_eq_false_iff.mp hn
    split
    · exact State.attach_poolSound _ hn h
    · obtain ⟨hone, hnodup, hplace⟩ := h
      refine ⟨hone, ?_, fun r e he h1 h2 => ?_⟩
      · show ((s.pool.queue ++ [(⟨L, 0, false⟩ : QueueEntry)]).map QueueEntry.line).Nodup
        rw [List.map_append, List.nodup_append]
        refine ⟨hnodup, List.nodup_singleton _, fun K hK M hM => ?_⟩
        obtain ⟨e, he, rfl⟩ := List.mem_map.mp hK
        rw [List.mem_singleton.mp hM]
        exact hwaits e he
      · rcases List.mem_append.mp he with he | he
        · exact hplace r e he h1 h2
        · rw [List.mem_singleton.mp he] at h2
          exact hfree r ⟨h1, h2⟩

theorem Receiver.detached_serves (rx : Receiver) (K : LineNo) : ¬ rx.detached.serves K := fun h => by cases h.2

theorem State.release_poolSound (L : LineNo) (h : s.poolSound) : (s.release L).poolSound := by
  unfold State.release
  split
  · rename_i r _
    have h1 : ((s.setReceiver r (s.receiver r).detached).markTimed L).poolSound := State.poolSound_of_pool rfl
      (State.setReceiver_poolSound r _ (fun K hK => absurd hK (Receiver.detached_serves _ K)) h)
    unfold State.detach
    dsimp only
    split
    · exact h1
    · exact State.handOver_poolSound r h1
  · split
    · exact State.poolSound_of_fewer h (fun _ _ hs => hs) (List.filter_sublist.map _)
    · exact h

theorem State.recount_poolSound (n : Nat) (r : RxNo) (h : s.poolSound) : (State.recount n s r).poolSound := by
  unfold State.recount
  dsimp only
  split
  · split
    · exact State.setReceiver_poolSound r _ (fun K hK => by cases hK.1) h
    · exact State.setReceiver_poolSound r _ (fun _ hK => hK) h
    · exact h
  · split
    · exact State.handOver_poolSound r (State.setReceiver_poolSound r _ (fun K hK => by cases hK.1) h)
    · exact State.setReceiver_poolSound r _ (fun _ hK => hK) h
    · exact h

theorem Receiver.lostHighway_serves {rx : Receiver} {K : LineNo} (h : rx.lostHighway.serves K) : rx.serves K := by
  unfold Receiver.lostHighway at h
  split at h <;> exact h

theorem Receiver.running_serves (n k : Nat) (K : LineNo) : ¬ (Receiver.running n k).serves K := fun h => by cases h.2

theorem State.reset_receiver (r : RxNo) : State.reset.receiver r = {} := by fin_cases r <;> rfl

/-- The exclusivity of the pool is maintained by what the shared operations are built of. -/
theorem poolSoundMaintained : Maintained State.poolSound where
  rest h _ ep _ := State.poolSound_of_pool ep h
  setLine _ _ h _ := h
  setReceiver r x h hst hln _ := State.setReceiver_poolSound r x
    (fun K hK => by rwa [Receiver.serves, hst, hln] at hK) h
  setQueue q h hq := State.poolSound_of_fewer h (fun _ _ hs => hs) (by rw [← hq]; exact List.Sublist.refl _)
  request := State.request_poolSound
  release := State.release_poolSound
  changeEnabled n h := State.foldl_keeps (fun r hu => State.recount_poolSound n r hu) allRx h
  lostHighway {s} h := State.poolSound_of_fewer h (fun r K hs => Receiver.lostHighway_serves (by
    rwa [State.receiver, State.mapReceivers, mapEach_getElem] at hs)) (List.Sublist.refl _)
  beginEntries h := h
  enterRunning h := State.poolSound_of_fewer h (fun r K hs => by
    rw [State.enterRunning_receiver] at hs
    exact absurd hs (Receiver.running_serves _ _ K)) (List.nil_sublist _)
  enterStopped h := State.poolSound_of_fewer h (fun r K hs => by
    rw [State.enterStopped_receiver] at hs
    cases hs.2) (List.nil_sublist _)
  reset := ⟨fun r _ _ h1 => absurd h1 (by rw [State.reset_receiver]; decide), List.nodup_nil, nofun⟩

end Sys2Proof.Machine

/-! ## A sample up to the Fault Monitor: the records it stages and the hook state it leaves (R18 to R28, R105) -/

namespace Sys2Proof.Machine

variable {s t u : State} {L : LineNo}

/-- What a sample leaves for the Fault Monitor after the Supervision Engine's step `r`: the baseline, the decoder, the
collector with its park, and the pool have taken it. -/
def State.beforeFaults (s : State) (L : LineNo) (x : Sample) (c : Conditioned) (w : Bool) (r : SupResult) : State :=
  let r4 := (s.baselineStep L c x.i).1.decoderStep L r.outcome x.elapsed.val
  let r5 := r4.1.collectorStep L x.elapsed.val r.opened r4.2.digit
  ((r5.1.parkIf L r5.2.park).poolStep L x.elapsed.val (!w)).1

/-- After the Supervision Engine's step a sample ends with the Fault Monitor and its GUARD request. -/
theorem State.afterHook_faults (s : State) (L : LineNo) (x : Sample) (c : Conditioned) (w : Bool) (r : SupResult) :
    ∃ k b, let f := (s.beforeFaults L x c w r).faultConditions L x c k b
      (s.afterHook L x c w r).1 = f.1.guardRequest L f.2.guard ∧ (s.afterHook L x c w r).2.fault = f.2 :=
  ⟨_, _, rfl, rfl⟩

/-! ### The number of records staged -/

/-- At most `n` records are staged from `s` to `t`. -/
def State.AddsAtMost (n : Nat) (s t : State) : Prop := t.journal.queue.length ≤ s.journal.queue.length + n

namespace State.AddsAtMost

variable {n m : Nat}

theorem refl (s : State) : AddsAtMost 0 s s := Nat.le_refl _

theorem mono (h : AddsAtMost n s t) (hm : n ≤ m) : AddsAtMost m s t := Nat.le_trans h (by omega)

theorem trans (h : AddsAtMost n s t) (g : AddsAtMost m t u) : AddsAtMost (n + m) s u := by
  unfold AddsAtMost at *
  omega

/-- Edits without staging. -/
theorem edits {ps : List EditPart} (h : AddsAtMost n s t) (e : Edits ps t u) (hp : .stage ∉ ps) : AddsAtMost n s u := by
  unfold AddsAtMost at *
  rwa [e.journal hp]

theorem stage (h : AddsAtMost n s t) (l : Option LineNo) (b : RecordBody) (v : Bool) :
    AddsAtMost (n + 1) s (t.stage l b v) := by
  unfold AddsAtMost at *
  rw [State.stage_queue]
  split
  · rw [List.length_append]
    exact Nat.add_le_add_right h 1
  · omega

end State.AddsAtMost

open State (AddsAtMost)

/-! The Supervision Engine -/

theorem State.releaseLine_adds (s : State) (L : LineNo) (b : Bool) : AddsAtMost 1 s (s.releaseLine L b) :=
  ((AddsAtMost.refl s).edits (.releasedLine s L) (by decide)).stage ..

theorem State.confirmSeizure_adds (s : State) (L : LineNo) (x : Sample) : AddsAtMost 1 s (s.confirmSeizure L x) := by
  have h1 : ∀ b, AddsAtMost 1 s (((s.stopTimer L).changeHook L .active).stage (some L) b) := fun b =>
    ((AddsAtMost.refl s).edits (((Edits.refl (ps := [.sup])).stopTimer (by decide)).changeHook (by decide) .active)
      (by decide)).stage ..
  have h2 : ∀ v : State, Edits [.sup, .coll, .pool] v (((v.clearStartMark L).openCollection L false).requestIfTone L) :=
    fun v => ((Edits.refl.clearStartMark (by decide)).openCollection (by decide) false).requestIfTone (by decide)
  unfold State.confirmSeizure
  dsimp only
  split
  · exact ((h1 _).edits (ps := []) ((Edits.refl.setMarks _).markUntimed L) (by decide)).edits (h2 _) (by decide)
  · exact (h1 _).edits (h2 _) (by decide)

theorem State.flashLine_adds (s : State) (L : LineNo) (n : Nat) : AddsAtMost 1 s (s.flashLine L n) :=
  (((AddsAtMost.refl s).edits (((Edits.refl (ps := [.dec, .coll])).dropTrain (by decide)).openCollection (by decide)
    false) (by decide)).stage ..).edits ((Edits.refl (ps := [.pool])).requestIfTone (by decide)) (by decide)

theorem State.endBreak_adds (s : State) (L : LineNo) : AddsAtMost 1 s (s.endBreak L).1 := by
  have h1 : AddsAtMost 0 s ((s.stopTimer L).changeHook L .active) := (AddsAtMost.refl s).edits
    (((Edits.refl (ps := [.sup])).stopTimer (by decide)).changeHook (by decide) .active) (by decide)
  unfold State.endBreak
  dsimp only
  split
  · dsimp only
    exact h1.trans (State.flashLine_adds ..)
  · exact h1.mono (by decide)

/-- The Supervision Engine's step stages one record at most. -/
theorem State.hookStep_adds (s : State) (L : LineNo) (x : Sample) (f : LoopState) :
    AddsAtMost 1 s (s.hookStep L x f).1 := by
  have quiet : ∀ {v : State}, Edits [.sup] s v → AddsAtMost 1 s v := fun e =>
    ((AddsAtMost.refl s).edits e (by decide)).mono (by decide)
  unfold State.hookStep
  dsimp only
  split
  · exact quiet ((Edits.refl.startTimer (by decide)).changeHook (by decide) .seizePending)
  · exact quiet (Edits.refl.clearStartMark (by decide))
  · exact quiet (((Edits.refl.stopTimer (by decide)).clearStartMark (by decide)).changeHook (by decide) .onHook)
  · split
    · dsimp only
      exact s.confirmSeizure_adds L x
    · exact quiet .refl
  · exact quiet (Edits.refl.beginBreak (by decide) .openInterval)
  · exact quiet .refl
  · split
    · dsimp only
      exact s.releaseLine_adds L false
    · split
      · exact s.endBreak_adds L
      · exact quiet .refl
  · exact quiet (Edits.refl.beginBreak (by decide) .parkedOpen)
  · exact quiet .refl
  · split
    · dsimp only
      exact s.releaseLine_adds L true
    · split
      · exact quiet ((Edits.refl.stopTimer (by decide)).changeHook (by decide) .parked)
      · exact quiet .refl
  · exact quiet .refl

/-! The Pulse Decoder -/

theorem State.endTrain_adds (s : State) (L : LineNo) : AddsAtMost 1 s (s.endTrain L).1 := by
  unfold State.endTrain
  dsimp only
  repeat' split
  · exact ((AddsAtMost.refl s).stage ..).edits ((Edits.refl (ps := [.dec])).setDec (by decide) _) (by decide)
  · exact ((AddsAtMost.refl s).edits ((Edits.refl (ps := [.dec])).setDec (by decide) _) (by decide)).mono (by decide)
  · exact (AddsAtMost.refl s).mono (by decide)

/-- The decoder's step stages one record at most. -/
theorem State.decoderStep_adds (s : State) (L : LineNo) (o : Outcome) (e : Nat) :
    AddsAtMost 1 s (s.decoderStep L o e).1 := by
  have set0 : ∀ (v : State) (d : PulseDecoder), AddsAtMost 0 v (v.setDec L d) := fun v d =>
    (AddsAtMost.refl v).edits ((Edits.refl (ps := [.dec])).setDec (by decide) d) (by decide)
  have set1 : ∀ (v : State) (d : PulseDecoder), AddsAtMost 1 v (v.setDec L d) := fun v d => (set0 v d).mono (by decide)
  have same : AddsAtMost 1 s s := (AddsAtMost.refl s).mono (by decide)
  unfold State.decoderStep
  dsimp only
  split
  · exact set1 ..
  · split
    · exact ((set0 s _).trans (State.endTrain_adds ..)).trans (set0 ..)
    · exact same
  · split
    · exact (set0 s _).trans (State.endTrain_adds ..)
    · exact same
  · split
    · exact ((AddsAtMost.refl s).stage ..).trans (set0 ..)
    · exact same
  · dsimp only
    split
    · exact set1 ..
    · exact same
  · split
    · exact (set0 s _).trans (State.endTrain_adds ..)
    · exact same

/-! The Digit Collector -/

/-- A collection finished: nothing is staged after its record. -/
theorem Edits.finishCollection (s : State) (L : LineNo) (c : Collection) :
    Edits [.coll, .pool] s (((s.setColl L c).markTimed L).release L) :=
  ((Edits.refl.setColl (by decide) c).markTimed L).release (by decide) L

theorem State.complete_adds (s : State) (L : LineNo) (r : NumberReason) (e : Option Nat) (v : Bool) :
    AddsAtMost 1 s (s.complete L r e v) := ((AddsAtMost.refl s).stage ..).edits (.finishCollection ..) (by decide)

theorem State.noDigits_adds (s : State) (L : LineNo) : AddsAtMost 1 s (s.noDigits L) :=
  ((AddsAtMost.refl s).stage ..).edits (.finishCollection ..) (by decide)

theorem State.appendSymbol_adds (s : State) (L : LineNo) (d : Digit) : AddsAtMost 2 s (s.appendSymbol L d) := by
  have h1 : AddsAtMost 1 s (if (s.line L).coll.string = [] then
      s.stage (some L) (.firstDigit (d.report (s.line L).coll.resumed none)) else s) := by
    split
    · exact (AddsAtMost.refl s).stage ..
    · exact (AddsAtMost.refl s).mono (by decide)
  have h2 : ∀ (v : State) (c : Collection), Edits [.coll] v ((v.setColl L c).markTimed L) := fun v c =>
    (Edits.refl.setColl (by decide) c).markTimed L
  unfold State.appendSymbol
  dsimp only
  split
  · exact (h1.edits (h2 ..) (by decide)).trans (State.complete_adds ..)
  · exact (h1.edits (h2 ..) (by decide)).mono (by decide)

theorem State.takeSymbol_adds (s : State) (L : LineNo) (d : Digit) : AddsAtMost 2 s (s.takeSymbol L d) := by
  unfold State.takeSymbol
  split
  · exact s.appendSymbol_adds L d
  · exact ((AddsAtMost.refl s).stage ..).mono (by decide)
  · exact (AddsAtMost.refl s).mono (by decide)

theorem State.collTimeouts_adds (s : State) (L : LineNo) (o d : Bool) : AddsAtMost 1 s (s.collTimeouts L o d).1 := by
  unfold State.collTimeouts
  dsimp only
  repeat' split
  · exact s.noDigits_adds L
  · exact s.complete_adds ..
  · exact (AddsAtMost.refl s).mono (by decide)

/-- The collector's step stages three records at most. -/
theorem State.collectorStep_adds (s : State) (L : LineNo) (e : Nat) (o : Bool) (d : Option Digit) :
    AddsAtMost 3 s (s.collectorStep L e o d).1 := by
  have h1 : AddsAtMost 0 s (s.setColl L ((s.line L).coll.advance e o)) := (AddsAtMost.refl s).edits
    ((Edits.refl (ps := [.coll])).setColl (by decide) _) (by decide)
  unfold State.collectorStep
  dsimp only
  split
  · exact (h1.trans (State.takeSymbol_adds ..)).trans (State.collTimeouts_adds ..)
  · exact (h1.trans (State.collTimeouts_adds ..)).mono (by decide)

/-! The park and the pool -/

theorem State.parkIf_adds (s : State) (L : LineNo) (b : Bool) : AddsAtMost 1 s (s.parkIf L b) := by
  have same : AddsAtMost 1 s s := (AddsAtMost.refl s).mono (by decide)
  unfold State.parkIf State.park
  split
  · split
    · exact ((AddsAtMost.refl s).edits ((((Edits.refl (ps := [.sup, .dec, .pool])).dropTrain (by decide)).changeHook
        (by decide) .parked).release (by decide) L) (by decide)).stage ..
    · exact same
  · exact same

/-- The pool's step stages one record at most. -/
theorem State.poolStep_adds (s : State) (L : LineNo) (e : Nat) (b : Bool) : AddsAtMost 1 s (s.poolStep L e b).1 := by
  have same : AddsAtMost 1 s s := (AddsAtMost.refl s).mono (by decide)
  have rx : ∀ r x, AddsAtMost 0 s (s.setReceiver r x) := fun r x => (AddsAtMost.refl s).edits
    ((Edits.refl (ps := [.pool])).setReceiver (by decide) r x) (by decide)
  have queue : ∀ q, AddsAtMost 0 s (s.setQueue q) := fun q => (AddsAtMost.refl s).edits
    ((Edits.refl (ps := [.pool])).setQueue (by decide) q) (by decide)
  unfold State.poolStep
  split
  · exact same
  · split
    · unfold State.windowStep
      dsimp only
      split
      · exact ((rx ..).stage ..).edits ((Edits.refl (ps := [.pool])).release (by decide) L) (by decide)
      · exact (rx ..).mono (by decide)
    · split
      · unfold State.waitStep
        dsimp only
        split
        · exact (queue _).stage ..
        · exact (queue _).mono (by decide)
      · exact same

/-- A sample stages seven records at most before the Fault Monitor takes it. -/
theorem State.beforeFaults_adds (s : State) (L : LineNo) (x : Sample) :
    AddsAtMost 7 s ((s.hookOf L x).1.beforeFaults L x ((s.line L).conditioned x) (s.served L) (s.hookOf L x).2) := by
  have h1 : AddsAtMost 1 s (s.hookOf L x).1 :=
    (show AddsAtMost 0 s (s.beforeHook L x) from Nat.le_refl _).trans (State.hookStep_adds ..)
  have h2 := h1.edits (((Edits.refl (ps := [.base])).baselineStep (L := L) (by decide) ((s.line L).conditioned x) x.i))
    (by decide)
  exact (((h2.trans (State.decoderStep_adds ..)).trans (State.collectorStep_adds ..)).trans
    (State.parkIf_adds ..)).trans (State.poolStep_adds ..)

end Sys2Proof.Machine

/-! ## The seizure's line, and the hook state a sample leaves for the Fault Monitor (R18 to R28, R105) -/

namespace Sys2Proof.Machine

variable {s t u : State} {L : LineNo}

/-! ### A confirmed seizure up to its request (R21) -/

/-- OFF_HOOK staged for a line that has become ACTIVE. -/
def State.offHook (s : State) (L : LineNo) (x : Sample) : State :=
  ((s.stopTimer L).changeHook L .active).stage (some L) (.offHook x.i.natAbs (s.line L).sup.startMark (rEst x))

/-- FOUND_AT_START set for a line with a start mark (R42). -/
def State.markFound (s : State) (L : LineNo) (b : Bool) : State :=
  if b then (s.setMarks L { (s.line L).marks with foundAtStart := true }).markUntimed L else s

/-- A confirmed seizure before the request for a receiver. -/
def State.called (s : State) (L : LineNo) (x : Sample) : State :=
  (((s.offHook L x).markFound L (s.line L).sup.startMark).clearStartMark L).openCollection L false

theorem State.confirmSeizure_eq (s : State) (L : LineNo) (x : Sample) :
    s.confirmSeizure L x = (s.called L x).requestIfTone L := rfl

theorem Edits.afterOffHook (s : State) (L : LineNo) (x : Sample) :
    Edits [.sup, .coll] (s.offHook L x) (s.called L x) := by
  have h1 : Edits [.sup, .coll] (s.offHook L x) ((s.offHook L x).markFound L (s.line L).sup.startMark) := by
    unfold State.markFound
    split
    · exact (Edits.refl.setMarks _).markUntimed L
    · exact .refl
  exact (h1.clearStartMark (by decide)).openCollection (by decide) false

theorem Edits.called (s : State) (L : LineNo) (x : Sample) : Edits [.sup, .coll, .stage] s (s.called L x) :=
  (((Edits.refl.stopTimer (by decide)).changeHook (by decide) _).stage (by decide) _ _ _).trans
    ((Edits.afterOffHook s L x).mono (by decide))

theorem State.openCollection_line (s : State) (L : LineNo) (b : Bool) :
    (s.openCollection L b).line L = { s.line L with
      coll := { (s.line L).coll with
        state := .collecting, string := [], firstDigit := ⟨0, true⟩
        interdigit := (s.line L).coll.interdigit.stop, resumed := b }
      marks := { (s.line L).marks with lastChange := s.time } } := by
  unfold State.openCollection
  rw [State.line_markTimed, if_pos rfl, State.line_setColl_self]
  rfl

theorem State.markFound_line (s : State) (L : LineNo) (b : Bool) :
    (s.markFound L b).line L = { s.line L with
      marks := { (s.line L).marks with foundAtStart := (s.line L).marks.foundAtStart || b } } := by
  unfold State.markFound
  cases b
  · simp
  · rw [if_pos rfl, Bool.or_true]
    exact State.line_setMarks_self ..

theorem State.offHook_line (s : State) (L : LineNo) (x : Sample) :
    (s.offHook L x).line L = { s.line L with
      sup := { (s.line L).sup with hook := .active, timer := (s.line L).sup.timer.stop }
      marks := ((s.offHook L x).line L).marks } := by
  unfold State.offHook State.stopTimer
  rw [State.stage_line, State.changeHook_line_self, State.line_setSup_self]

theorem State.changeHook_found {h : Hook} (hh : h.clearsFoundAtStart = false) :
    ((s.changeHook L h).line L).marks.foundAtStart = (s.line L).marks.foundAtStart := by
  unfold State.changeHook
  split
  · rfl
  · simp [State.line_markTimed, hh]

/-- The line of a confirmed seizure (R21, R42, R84). -/
theorem State.called_line (s : State) (L : LineNo) (x : Sample) :
    (s.called L x).line L = { s.line L with
      sup := { (s.line L).sup with hook := .active, timer := (s.line L).sup.timer.stop, startMark := false }
      coll := { (s.line L).coll with
        state := .collecting, string := [], firstDigit := ⟨0, true⟩
        interdigit := (s.line L).coll.interdigit.stop, resumed := false }
      marks := ((s.called L x).line L).marks } := by
  unfold State.called State.clearStartMark
  rw [State.openCollection_line, State.line_setSup_self, State.markFound_line, State.offHook_line]

theorem State.called_found (s : State) (L : LineNo) (x : Sample) :
    ((s.called L x).line L).marks.foundAtStart =
      ((s.line L).marks.foundAtStart || (s.line L).sup.startMark) := by
  have h1 : ((s.offHook L x).line L).marks.foundAtStart = (s.line L).marks.foundAtStart := by
    unfold State.offHook State.stopTimer
    rw [State.stage_line, State.changeHook_found rfl, State.line_setSup_self]
  unfold State.called State.clearStartMark
  rw [State.openCollection_line, State.line_setSup_self, State.markFound_line]
  exact congrArg (· || _) h1

theorem Edits.requestIfTone_pool (s : State) (L : LineNo) : Edits [.pool] s (s.requestIfTone L) :=
  Edits.refl.requestIfTone (by decide)

theorem State.confirmSeizure_hook (s : State) (L : LineNo) (x : Sample) :
    ((s.confirmSeizure L x).line L).sup.hook = .active := by
  rw [State.confirmSeizure_eq, ((Edits.requestIfTone_pool _ L).line L).hook (by decide), State.called_line]

/-! ### The hook state after the Supervision Engine's step -/

/-- The hook states that the Supervision Engine's step moves between: idle, seizing, and the four of a call. -/
def Hook.working : Hook → Bool
  | .onHook => true
  | .seizePending => true
  | .active => true
  | .openInterval => true
  | .parked => true
  | .parkedOpen => true
  | _ => false

theorem State.endBreak_hook (s : State) (L : LineNo) : ((s.endBreak L).1.line L).sup.hook = .active := by
  have h1 : (((s.stopTimer L).changeHook L .active).line L).sup.hook = .active := State.changeHook_hook ..
  unfold State.endBreak
  revert h1
  generalize (s.stopTimer L).changeHook L .active = v
  intro h1
  dsimp only
  split
  · have k : ∀ n, Edits [.dec, .coll, .pool, .stage] v (v.flashLine L n) := fun n =>
      Edits.refl.flashLine (by decide) (by decide) (by decide) (by decide) n
    exact ((k _).line L).hook (by decide) |>.trans h1
  · exact h1

theorem State.beginBreak_hook (s : State) (L : LineNo) (h : Hook) : ((s.beginBreak L h).line L).sup.hook = h := by
  unfold State.beginBreak
  dsimp only
  rw [State.changeHook_hook]

theorem State.releaseLine_hook (s : State) (L : LineNo) (b : Bool) : ((s.releaseLine L b).line L).sup.hook = .onHook := by
  rw [State.releaseLine_eq, State.stage_line]
  exact (s.releasedLine_line L).1

/-- In the other hook states the step does nothing. -/
theorem State.hookStep_of_not_working (h : (s.line L).sup.hook.working = false) (x : Sample) (f : LoopState) :
    s.hookStep L x f = (s, {}) := by
  unfold State.hookStep
  dsimp only
  cases hh : (s.line L).sup.hook
  case blocked => rfl
  case guard => rfl
  case testing => rfl
  case notEquipped => rfl
  all_goals
    rw [hh] at h
    cases h

theorem State.hookStep_working (h : (s.line L).sup.hook.working = true) (x : Sample) (f : LoopState) :
    ((s.hookStep L x f).1.line L).sup.hook.working = true := by
  unfold State.hookStep
  dsimp only
  split
  · rw [State.changeHook_hook]
    rfl
  · rw [State.clearStartMark, State.line_setSup_self]
    exact h
  · rw [State.changeHook_hook]
    rfl
  · split
    · rw [State.confirmSeizure_hook]
      rfl
    · exact h
  · rw [State.beginBreak_hook]
    rfl
  · exact h
  · split
    · rw [State.releaseLine_hook]
      rfl
    · split
      · rw [State.endBreak_hook]
        rfl
      · exact h
  · rw [State.beginBreak_hook]
    rfl
  · exact h
  · split
    · rw [State.releaseLine_hook]
      rfl
    · split
      · rw [State.changeHook_hook]
        rfl
      · exact h
  · exact h

/-! ### The hook state and the other records up to the Fault Monitor -/

theorem Edits.beforeFaults (s : State) (L : LineNo) (x : Sample) (c : Conditioned) (w : Bool) (r : SupResult) :
    Edits [.sup, .base, .dec, .coll, .pool, .stage] s (s.beforeFaults L x c w r) :=
  ((((Edits.refl.baselineStep (by decide) c x.i).decoderStep (by decide) (by decide) ..).collectorStep (by decide)
    (by decide) (by decide) ..).parkIf (by decide) (by decide) (by decide) (by decide) _).poolStep (by decide)
    (by decide) ..

/-- A park takes an ACTIVE line to PARKED (R27). -/
theorem State.parkIf_hook (s : State) (L : LineNo) (b : Bool) :
    ((s.parkIf L b).line L).sup.hook = (s.line L).sup.hook ∨
      (s.line L).sup.hook = .active ∧ ((s.parkIf L b).line L).sup.hook = .parked := by
  unfold State.parkIf State.park
  split
  · split
    · refine .inr ⟨‹_›, ?_⟩
      rw [State.stage_line, ((Edits.refl (ps := [.pool])).release (by decide) L |>.line L).hook (by decide),
        State.changeHook_hook]
    · exact .inl rfl
  · exact .inl rfl

/-- Up to the Fault Monitor only a park changes the hook state that the Supervision Engine's step left. -/
theorem State.beforeFaults_hook (s : State) (L : LineNo) (x : Sample) (c : Conditioned) (w : Bool) (r : SupResult) :
    ((s.beforeFaults L x c w r).line L).sup.hook = (s.line L).sup.hook ∨
      (s.line L).sup.hook = .active ∧ ((s.beforeFaults L x c w r).line L).sup.hook = .parked := by
  unfold State.beforeFaults
  dsimp only
  have k3 : Edits [.base] s (s.baselineStep L c x.i).1 := Edits.refl.baselineStep (by decide) ..
  generalize (s.baselineStep L c x.i).1 = s3 at k3
  have k4 : Edits [.dec, .stage] s3 (s3.decoderStep L r.outcome x.elapsed.val).1 :=
    Edits.refl.decoderStep (by decide) (by decide) ..
  generalize s3.decoderStep L r.outcome x.elapsed.val = r4 at k4
  have k5 : Edits [.coll, .pool, .stage] r4.1 (r4.1.collectorStep L x.elapsed.val r.opened r4.2.digit).1 :=
    Edits.refl.collectorStep (by decide) (by decide) (by decide) ..
  generalize r4.1.collectorStep L x.elapsed.val r.opened r4.2.digit = r5 at k5
  have hp := State.parkIf_hook r5.1 L r5.2.park
  generalize r5.1.parkIf L r5.2.park = s5 at hp
  have k6 : Edits [.pool, .stage] s5 (s5.poolStep L x.elapsed.val (!w)).1 :=
    Edits.refl.poolStep (by decide) (by decide) ..
  rw [(k6.line L).hook (by decide)]
  rwa [(k5.line L).hook (by decide), (k4.line L).hook (by decide), (k3.line L).hook (by decide)] at hp

/-- The state that the Fault Monitor finds at a sample of a line. -/
def State.atFaults (s : State) (L : LineNo) (x : Sample) : State :=
  (s.hookOf L x).1.beforeFaults L x ((s.line L).conditioned x) (s.served L) (s.hookOf L x).2

theorem Edits.atFaults (s : State) (L : LineNo) (x : Sample) :
    Edits [.sup, .base, .dec, .coll, .pool, .stage] (s.beforeHook L x) (s.atFaults L x) :=
  (Edits.refl.hookStep (by decide) (by decide) (by decide) (by decide) (by decide) x _).trans (.beforeFaults ..)

theorem Stages.atFaults (s : State) (L : LineNo) (x : Sample) : Stages s (s.atFaults L x) :=
  (Stages.beforeHook s L x).trans (Edits.atFaults s L x).stages

theorem State.atFaults_fault (s : State) (L : LineNo) (x : Sample) :
    ((s.atFaults L x).line L).fault = (s.line L).fault := by
  rw [((Edits.atFaults s L x).line L).fault (by decide), State.beforeHook_line]

/-- Blocked and guarded lines stay so up to the Fault Monitor, and the others in the working states. -/
theorem State.atFaults_hook (s : State) (L : LineNo) (x : Sample) :
    ((s.line L).sup.hook.working = false → ((s.atFaults L x).line L).sup.hook = (s.line L).sup.hook) ∧
      ((s.line L).sup.hook.working = true → ((s.atFaults L x).line L).sup.hook.working = true) := by
  have hb : ((s.beforeHook L x).line L).sup.hook = (s.line L).sup.hook := by rw [State.beforeHook_line]
  have hf := State.beforeFaults_hook (s.hookOf L x).1 L x ((s.line L).conditioned x) (s.served L) (s.hookOf L x).2
  refine ⟨fun h => ?_, fun h => ?_⟩
  · have e : s.hookOf L x = (s.beforeHook L x, {}) := State.hookStep_of_not_working (by rw [hb]; exact h) ..
    rcases hf with hf | ⟨ha, -⟩
    · exact hf.trans (by rw [e]; exact hb)
    · rw [e] at ha
      rw [← hb, show ((s.beforeHook L x).line L).sup.hook = .active from ha] at h
      cases h
  · have hw : ((s.hookOf L x).1.line L).sup.hook.working = true := State.hookStep_working (by rw [hb]; exact h) ..
    rcases hf with hf | ⟨-, hf⟩
    · exact (congrArg Hook.working hf).trans hw
    · exact congrArg Hook.working hf

/-- A taken sample ends with the Fault Monitor and its GUARD request. -/
theorem State.takeSample_faults (x : Sample) (h : (s.line L).sup.hook.discards = false) :
    ∃ k b, let f := (s.atFaults L x).faultConditions L x ((s.line L).conditioned x) k b
      (s.takeSample L x).1 = f.1.guardRequest L f.2.guard ∧ (s.takeSample L x).2.fault = f.2 := by
  rw [State.takeSample_of_taken x h]
  exact State.afterHook_faults ..

end Sys2Proof.Machine

/-! ## POWER_CROSS at a sample, and GUARD (R32, R33, R107 to R109, R120, R121) -/

namespace Sys2Proof.Machine

variable {s t u : State} {L : LineNo}

/-! ### The record of POWER_CROSS among the conditions -/

/-- Line `L` has in `t` the record of POWER_CROSS and the run count that it has in `s`. -/
structure State.SameCross (L : LineNo) (s t : State) : Prop where
  record : (t.line L).fault.powerCross = (s.line L).fault.powerCross
  run : (t.line L).fault.run = (s.line L).fault.run

theorem State.SameCross.trans (h : SameCross L s t) (g : SameCross L t u) : SameCross L s u :=
  ⟨g.record.trans h.record, g.run.trans h.run⟩

theorem State.storeCondition_fault (s : State) (L : LineNo) (c : Condition) (r : CondRecord) :
    ((s.storeCondition L c r).line L).fault = (s.line L).fault.set c r := by
  unfold State.storeCondition
  dsimp only
  split <;> simp [State.line_markTimed]

theorem State.reportCondition_line (s : State) (L K : LineNo) (c : Condition) (o : CondRecord) (f : CondEffect)
    (k : Hook) (v : Nat) (b : Bool) : (s.reportCondition L c o f k v b).line K = s.line K := by
  cases f
  case none => rfl
  case raise => exact State.stage_line ..
  case clear => exact State.stage_line ..

/-- The four other conditions leave POWER_CROSS as it is. -/
theorem State.evalIf_sameCross (s : State) (L : LineNo) {c : Condition} (hc : c ≠ .powerCross) (b p : Bool) (e : Nat)
    (k : Hook) (v : Nat) : SameCross L s (s.evalIf b L c p e k v).1 := by
  have hset : ∀ (f : FaultRecord) (r : CondRecord), (f.set c r).powerCross = f.powerCross ∧ (f.set c r).run = f.run := by
    intro f r
    cases c
    case powerCross => exact absurd rfl hc
    all_goals exact ⟨rfl, rfl⟩
  unfold State.evalIf
  split
  · unfold State.evalCondition
    dsimp only
    constructor
    all_goals rw [State.reportCondition_line, State.storeCondition_fault]
    · exact (hset ..).1
    · exact (hset ..).2
  · exact ⟨rfl, rfl⟩

/-- The Fault Monitor deals with POWER_CROSS first; the other conditions leave its record, and stage behind its report. -/
theorem State.faultConditions_cross (s : State) (L : LineNo) (x : Sample) (c : Conditioned) (k : Hook) (b : Bool) :
    let r1 := State.evalCross (s.setFault L { (s.line L).fault with
      a16 := a16After (s.line L).fault.a16 (voltageChange x c) }) L x k
    (s.faultConditions L x c k b).2.cross = r1.2.1 ∧ (s.faultConditions L x c k b).2.guard = r1.2.2 ∧
      SameCross L r1.1 (s.faultConditions L x c k b).1 ∧
      Edits [.fault, .stage] r1.1 (s.faultConditions L x c k b).1 := by
  refine ⟨rfl, rfl, ?_, ?_⟩
  · exact (((State.evalIf_sameCross _ L (by decide) ..).trans (State.evalIf_sameCross _ L (by decide) ..)).trans
      (State.evalIf_sameCross _ L (by decide) ..)).trans (State.evalIf_sameCross _ L (by decide) ..)
  · exact (((Edits.refl.evalIf (by decide) (by decide) ..).evalIf (by decide) (by decide) ..).evalIf (by decide)
      (by decide) ..).evalIf (by decide) (by decide) ..

/-- The record of POWER_CROSS stored with the run count of the sample, before its report. -/
def State.storeCross (s : State) (L : LineNo) (run : Nat) (r : CondRecord) : State :=
  (s.setFault L { (s.line L).fault with run := run }).storeCondition L .powerCross r

theorem State.storeCross_fault (s : State) (L : LineNo) (run : Nat) (r : CondRecord) :
    ((s.storeCross L run r).line L).fault = { (s.line L).fault with run := run, powerCross := r } := by
  unfold State.storeCross
  rw [State.storeCondition_fault, State.line_setFault_self]
  rfl

theorem Edits.storeCross (s : State) (L : LineNo) (run : Nat) (r : CondRecord) :
    Edits [.fault] s (s.storeCross L run r) :=
  (Edits.refl.setFault (by decide) _).storeCondition (by decide) ..

theorem Near.storeCross (s : State) (L : LineNo) (run : Nat) (r : CondRecord) : Near L s (s.storeCross L run r) :=
  ((Near.refl L s).setFault _).storeCondition ..

theorem State.evalCross_eq (s : State) (L : LineNo) (x : Sample) (k : Hook) :
    s.evalCross L x k =
      let r := ((s.line L).fault.powerCross.advance x.elapsed.val).stepCross (sampleHigh x)
        (runAfter (s.line L).fault.run (sampleHigh x)) s.time
      ((s.storeCross L (runAfter (s.line L).fault.run (sampleHigh x)) r.1).reportCondition L .powerCross
        (s.line L).fault.powerCross r.2.1 k (max x.vt.natAbs x.vr.natAbs) true, r.2.1, r.2.2) := rfl

/-! ### The raise (R107, R108, R120) -/

/-- The record of POWER_CROSS as a raise leaves it. -/
def CondRecord.raisedCross (r : CondRecord) (e : Nat) (now : Word) : CondRecord :=
  { r.advance e with state := .raised, source := .sense, raisedAt := now }

/-- The third high sample in a row raises a SUSPECT POWER_CROSS and asks for GUARD. -/
theorem State.evalCross_raise {x : Sample} (hx : sampleHigh x = true)
    (hs : (s.line L).fault.powerCross.state = .suspect) (hr : 2 ≤ (s.line L).fault.run) (k : Hook) :
    s.evalCross L x k =
      ((s.storeCross L 3 ((s.line L).fault.powerCross.raisedCross x.elapsed.val s.time)).stage (some L)
        (.faultRaised .powerCross .sense .none k ((max x.vt.natAbs x.vr.natAbs : Nat) : Int)) true, .raise, .entry) := by
  have hrun : runAfter (s.line L).fault.run true = 3 := by
    simp only [runAfter, if_true, Config.powerCrossRun]
    omega
  have hstep : ((s.line L).fault.powerCross.advance x.elapsed.val).stepCross true 3 s.time =
      ((s.line L).fault.powerCross.raisedCross x.elapsed.val s.time, .raise, .entry) := by
    simp [CondRecord.stepCross, CondRecord.raisedCross, CondRecord.advance, hs]
  rw [State.evalCross_eq, hx, hrun]
  simp only [hstep]
  rfl

/-! ### The clear (R107, R109, R121) -/

/-- The record of POWER_CROSS as a clear leaves it. -/
def CondRecord.clearedCross (r : CondRecord) (e : Nat) : CondRecord :=
  { r.advance e with state := .clear, timer := (r.timer.advance e).stop, source := .sense }

/-- Two seconds without a high sample clear a CLEARING POWER_CROSS and end GUARD. -/
theorem State.evalCross_clear {x : Sample} (hx : sampleHigh x = false)
    (hs : (s.line L).fault.powerCross.state = .clearing)
    (ht : ((s.line L).fault.powerCross.timer.advance x.elapsed.val).reached 2000 = true) (k : Hook) :
    s.evalCross L x k =
      ((s.storeCross L 0 ((s.line L).fault.powerCross.clearedCross x.elapsed.val)).stage (some L)
        (.faultCleared .powerCross (s.line L).fault.powerCross.source
            (s.line L).fault.powerCross.raisedAt), .clear, .exit) := by
  have hstep : ((s.line L).fault.powerCross.advance x.elapsed.val).stepCross false 0 s.time =
      ((s.line L).fault.powerCross.clearedCross x.elapsed.val, .clear, .exit) := by
    simp [CondRecord.stepCross, CondRecord.clearedCross, CondRecord.advance, hs, ht]
  rw [State.evalCross_eq, hx, show runAfter (s.line L).fault.run false = 0 from rfl]
  simp only [hstep]
  rfl

/-! ### GUARD (R32, R33) -/

/-- A line in GUARD before the report of its call's end. -/
def State.guarded (s : State) (L : LineNo) : State :=
  let s1 := ((s.teardown L).stopTimer L).clearStartMark L
  (s1.setSup L { (s1.line L).sup with
    guardReturn := if (s.line L).sup.hook = .blocked then .blocked else .onHook }).changeHook L .guard

theorem State.guardEntry_eq (h : (s.line L).sup.hook.takesGuard = true) :
    s.guardEntry L = if (s.line L).sup.hook.inCall then
      (s.guarded L).stage (some L) (.onHook .guard (s.line L).sup.hook.isParked (s.line L).coll.uncompleted s.time)
    else s.guarded L := by
  unfold State.guardEntry
  simp only [h, if_true]
  rfl

/-- After the teardown a GUARD entry writes the supervision record alone. -/
theorem State.guarded_line (s : State) (L : LineNo) :
    (s.guarded L).line L = { (s.teardown L).line L with
      sup := { ((s.teardown L).line L).sup with
        hook := .guard
        timer := ((s.teardown L).line L).sup.timer.stop
        startMark := false
        guardReturn := if (s.line L).sup.hook = .blocked then .blocked else .onHook }
      marks := ((s.guarded L).line L).marks } := by
  unfold State.guarded
  dsimp only
  rw [State.changeHook_line_self, State.line_setSup_self]
  unfold State.clearStartMark State.stopTimer
  rw [State.line_setSup_self, State.line_setSup_self]

theorem State.guarded_pool (s : State) (L : LineNo) : (s.guarded L).pool = (s.teardown L).pool := by
  unfold State.guarded
  dsimp only
  rw [(Edits.refl (ps := [.sup])).changeHook (by decide) _ |>.pool (by decide), State.setSup_pool,
    State.clearStartMark, State.setSup_pool, State.stopTimer, State.setSup_pool]

theorem State.guardEntry_lines (h : (s.line L).sup.hook.takesGuard = true) :
    (s.guardEntry L).lines = (s.guarded L).lines ∧ (s.guardEntry L).pool = (s.guarded L).pool := by
  rw [State.guardEntry_eq h]
  split
  · exact ⟨State.stage_lines .., State.stage_pool ..⟩
  · exact ⟨rfl, rfl⟩

/-- A line put in GUARD (R23, R32). -/
theorem State.guardEntry_line (h : (s.line L).sup.hook.takesGuard = true) :
    ((s.guardEntry L).line L).sup.hook = .guard ∧
      ((s.guardEntry L).line L).sup.guardReturn = (if (s.line L).sup.hook = .blocked then .blocked else .onHook) ∧
      ((s.guardEntry L).line L).sup.timer.running = false ∧ ((s.guardEntry L).line L).sup.startMark = false ∧
      ((s.guardEntry L).line L).dec.trainOpen = false ∧
      ((s.guardEntry L).line L).coll = (s.line L).coll.abandoned ∧
      ((s.guardEntry L).line L).fault = (s.line L).fault ∧ (s.poolSound → (s.guardEntry L).served L = false) := by
  obtain ⟨hl, hp⟩ := State.guardEntry_lines h
  rw [State.line_of_lines hl, State.guarded_line]
  have hf : ((s.teardown L).line L).fault = (s.line L).fault :=
    ((Edits.refl (ps := [.dec, .coll, .pool])).teardown (by decide) (by decide) (by decide) |>.line L).fault (by decide)
  refine ⟨rfl, rfl, rfl, rfl, s.teardown_trainOpen L, s.teardown_coll L, hf, fun hs => ?_⟩
  rw [State.served_of_pool hp, State.served_of_pool (s.guarded_pool L)]
  exact State.teardown_not_served hs

/-- The line after a GUARD exit (R33, R38, R39). -/
theorem State.guardExit_line (h : (s.line L).sup.hook = .guard) :
    (s.guardExit L).line L = { s.line L with
      cond := { (s.line L).cond with reseed := true }
      sup := { ({ (s.line L).sup with hook := (s.line L).sup.guardReturn.hook } : Supervision).withBaseline
        (s.line L).profile 0 false with guardReturn := .onHook }
      marks := ((s.guardExit L).line L).marks } := by
  have hask : ((s.changeHook L (s.line L).sup.guardReturn.hook).askReseed L).line L = { s.line L with
      cond := { (s.line L).cond with reseed := true }
      sup := { (s.line L).sup with hook := (s.line L).sup.guardReturn.hook }
      marks := ((s.changeHook L (s.line L).sup.guardReturn.hook).line L).marks } := by
    unfold State.askReseed
    rw [State.line_setCond_self, State.changeHook_line_self]
  unfold State.guardExit
  rw [if_pos h]
  dsimp only
  rw [State.line_setSup_self, State.clearBaseline, State.setBaseline_line_self, hask]

end Sys2Proof.Machine

/-! ## POWER_CROSS raised and cleared by a sample (R32, R33, R105 to R109, R120, R121, R161) -/

namespace Sys2Proof.Machine

variable {s t u : State} {L : LineNo}

/-- A record staged with room stays in the queue. -/
theorem mem_queue_of_stage {l : Option LineNo} {b : RecordBody} {v : Bool} (hq : u.journal.queue.length < 32)
    (h : Stages (u.stage l b v) t) : (⟨l, u.time, b⟩ : Record) ∈ t.journal.queue := by
  have ha := h.appended
  rw [State.stage_queue, if_pos hq] at ha
  exact ha.subset (List.mem_append_right _ (List.mem_singleton_self _))

/-- What the operations maintain holds when the Fault Monitor takes a sample. -/
theorem Maintained.atFaults {P : State → Prop} (m : Maintained P) (h : P s) (L : LineNo) (x : Sample) :
    P (s.atFaults L x) := by
  have h2 : P (s.conditionStep L x) := m.setLine L _ h fun hl => hl
  have h3 : P (s.hookOf L x).1 := m.hookStep (m.setSup h2 _) ..
  have h4 := m.baselineStep h3 ((s.line L).conditioned x) x.i (L := L)
  have h5 := m.edits h4 (Edits.refl.decoderStep (L := L) (by decide) (by decide) (s.hookOf L x).2.outcome x.elapsed.val)
  exact m.poolStep (m.parkIf (m.collectorStep h5 ..) _) ..

/-- The state of the sample as the Fault Monitor deals with POWER_CROSS: the AC average stored. -/
def State.atCross (s : State) (L : LineNo) (x : Sample) : State :=
  (s.atFaults L x).setFault L { ((s.atFaults L x).line L).fault with
    a16 := a16After ((s.atFaults L x).line L).fault.a16 (voltageChange x ((s.line L).conditioned x)) }

theorem State.atCross_fault (s : State) (L : LineNo) (x : Sample) :
    ((s.atCross L x).line L).fault = { (s.line L).fault with
      a16 := a16After (s.line L).fault.a16 (voltageChange x ((s.line L).conditioned x)) } := by
  unfold State.atCross
  rw [State.line_setFault_self, State.atFaults_fault]

theorem Near.atFaults (s : State) (L : LineNo) (x : Sample) : Near L s (s.atFaults L x) :=
  ((((((((Near.refl L s).conditionStep x).advanceTimer _).hookStep x _).baselineStep _ x.i).decoderStep ..).collectorStep
    ..).parkIf _).poolStep ..

theorem Near.atCross (s : State) (L : LineNo) (x : Sample) : Near L s (s.atCross L x) := (Near.atFaults s L x).setFault _

/-- A taken sample ends with POWER_CROSS, the other conditions, which leave it alone, and the GUARD request. -/
theorem State.takeSample_cross (x : Sample) (h : (s.line L).sup.hook.discards = false) :
    ∃ k v, SameCross L ((s.atCross L x).evalCross L x k).1 v ∧
      Edits [.fault, .stage] ((s.atCross L x).evalCross L x k).1 v ∧
      (s.takeSample L x).1 = v.guardRequest L ((s.atCross L x).evalCross L x k).2.2 ∧
      (s.takeSample L x).2.fault.cross = ((s.atCross L x).evalCross L x k).2.1 := by
  obtain ⟨k, b, he, hf⟩ := State.takeSample_faults x h
  obtain ⟨hcross, hguard, hsame, hedits⟩ := State.faultConditions_cross (s.atFaults L x) L x
    ((s.line L).conditioned x) k b
  exact ⟨k, _, hsame, hedits, he.trans (by rw [hguard]; rfl), by rw [hf]; exact hcross⟩

/-- The rows that name a step of POWER_CROSS are the sample, if the Fault Monitor reports the step. -/
theorem exec_powerCrossRaise_of_reported {x : Sample} (ha : s.sampleArrives L x = true)
    (h : (s.takeSample L x).2.fault.cross = .raise) :
    exec (.powerCrossRaise L x) s = .next (s.takeSample L x).1.settle := by
  change s.sampleRow L x (fun r => decide (r.fault.cross = .raise)) = _
  simp [State.sampleRow, ha, h]

theorem exec_powerCrossClear_of_reported {x : Sample} (ha : s.sampleArrives L x = true)
    (h : (s.takeSample L x).2.fault.cross = .clear) :
    exec (.powerCrossClear L x) s = .next (s.takeSample L x).1.settle := by
  change s.sampleRow L x (fun r => decide (r.fault.cross = .clear)) = _
  simp [State.sampleRow, ha, h]

/-- Room left for the report of POWER_CROSS: at most seven records come before it. -/
theorem State.atCross_room (h : s.journal.queue.length ≤ 16) (L : LineNo) (x : Sample) (n : Nat) (r : CondRecord) :
    ((s.atCross L x).storeCross L n r).journal.queue.length < 32 := by
  have ha := s.beforeFaults_adds L x
  rw [(Edits.storeCross ..).journal (by decide)]
  unfold State.AddsAtMost at ha
  show (s.atFaults L x).journal.queue.length < 32
  unfold State.atFaults
  omega

theorem Edits.atCross (s : State) (L : LineNo) (x : Sample) : Edits [.fault] (s.atFaults L x) (s.atCross L x) :=
  Edits.refl.setFault (by decide) _

theorem Stages.storeCross (s : State) (L : LineNo) (x : Sample) (n : Nat) (r : CondRecord) :
    Stages s ((s.atCross L x).storeCross L n r) :=
  ((Stages.atFaults s L x).trans (Edits.atCross s L x).stages).trans (Edits.storeCross ..).stages

/-- From the state that the Fault Monitor finds to the one it leaves only conditions are written and records staged. -/
theorem Edits.throughCross (s : State) (L : LineNo) (x : Sample) {n : Nat} {r : CondRecord} {b : RecordBody} {c : Bool}
    {v : State} (h : Edits [.fault, .stage] (((s.atCross L x).storeCross L n r).stage (some L) b c) v) :
    Edits [.fault, .stage] (s.atFaults L x) v :=
  ((((Edits.atCross s L x).trans (.storeCross ..)).mono (by decide)).stage (by decide) _ _ _).trans h

theorem Hook.takesGuard_of_working {h : Hook} (hw : h.working = true) : h.takesGuard = true ∧ h ≠ .blocked := by
  cases h
  case blocked => cases hw
  case guard => cases hw
  case testing => cases hw
  case notEquipped => cases hw
  all_goals exact ⟨rfl, nofun⟩

theorem Hook.working_or_blocked {h : Hook} (hne : h ≠ .notEquipped) (hnt : h ≠ .testing) (hng : h ≠ .guard) :
    h = .blocked ∨ h.working = true := by
  cases h
  case blocked => exact .inl rfl
  case guard => exact absurd rfl hng
  case testing => exact absurd rfl hnt
  case notEquipped => exact absurd rfl hne
  all_goals exact .inr rfl

/-- A line that can be guarded can be so when the Fault Monitor asks for it, and is BLOCKED there as it was. -/
theorem State.atFaults_takesGuard (x : Sample) (hne : (s.line L).sup.hook ≠ .notEquipped)
    (hnt : (s.line L).sup.hook ≠ .testing) (hng : (s.line L).sup.hook ≠ .guard) :
    ((s.atFaults L x).line L).sup.hook.takesGuard = true ∧
      (((s.atFaults L x).line L).sup.hook = .blocked ↔ (s.line L).sup.hook = .blocked) := by
  obtain ⟨hsame, hwork⟩ := s.atFaults_hook L x
  rcases Hook.working_or_blocked hne hnt hng with h | h
  · rw [hsame (by rw [h]; rfl), h]
    exact ⟨rfl, Iff.rfl⟩
  · obtain ⟨ht, hb⟩ := Hook.takesGuard_of_working (hwork h)
    exact ⟨ht, iff_of_false hb (Hook.takesGuard_of_working h).2⟩

/-- Settles O28: the Fault Monitor raises POWER_CROSS in the sample, and its GUARD request tears the line down. -/
theorem powerCrossRaiseGuardsTheLine : Obligations.PowerCrossRaiseGuardsTheLine := by
  intro s L x ha hx hs hr hne hnt hng
  have hd : (s.line L).sup.hook.discards = false := by
    rw [Bool.eq_false_iff]
    exact fun hd => ((Hook.discards_iff _).mp hd).elim hne hnt
  obtain ⟨k, v, hsame, hedits, htake, hcross⟩ := State.takeSample_cross x hd
  have hfault := s.atCross_fault L x
  have htime : (s.atCross L x).time = s.time := (Near.atCross s L x).within.time
  rw [State.evalCross_raise hx (by rw [hfault]; exact hs) (by rw [hfault]; exact hr), htime] at hsame hedits htake hcross
  dsimp only at hsame hedits htake hcross
  have hthrough := Edits.throughCross s L x hedits
  have hhook : (v.line L).sup.hook = ((s.atFaults L x).line L).sup.hook := (hthrough.line L).hook (by decide)
  obtain ⟨htakes, hblocked⟩ := State.atFaults_takesGuard x hne hnt hng
  rw [← hhook] at htakes hblocked
  obtain ⟨ghook, greturn, gtimer, gmark, gtrain, gcoll, gfault, gserved⟩ := State.guardEntry_line htakes
  have htake' : (s.takeSample L x).1 = v.guardEntry L := htake
  generalize hrec : ((s.atCross L x).line L).fault.powerCross.raisedCross x.elapsed.val s.time = r at hsame hedits hthrough
  have hstored := State.storeCross_fault (s.atCross L x) L 3 r
  have hlast : Stages v (v.guardEntry L).settle := ((Edits.refl (ps := allParts)).guardEntry (by decide) (by decide)
    (by decide) (by decide) (by decide)).stages.trans (.settle _)
  refine ⟨_, exec_powerCrossRaise_of_reported ha hcross, ?_⟩
  rw [State.settle_line, htake', gfault, ghook, greturn, gtrain, gcoll, gtimer, gmark, hsame.record, hsame.run,
    State.stage_line, hstored, ← hrec]
  refine ⟨rfl, rfl, rfl, rfl, rfl, if_congr hblocked rfl rfl, rfl, rfl, rfl, rfl, rfl, fun hroom => ?_, fun hp => ?_⟩
  · have hq := State.atCross_room hroom L x 3 r
    have hw := Near.storeCross (s.atCross L x) L 3 r
    have hlater := hedits.stages.trans hlast
    have hm := mem_queue_of_stage hq hlater
    rw [hw.within.time, htime, Nat.cast_max] at hm
    exact ⟨⟨k, hm⟩, triggerTaken_of_stage (Stages.storeCross ..)
      (congrArg (·.control) (hw.within.run.trans (Near.atCross s L x).within.run)) hq hlater⟩
  · rw [State.served_of_pool (State.settle_pool _)]
    exact gserved (State.poolSound_of_pool (hthrough.pool (by decide)) (poolSoundMaintained.atFaults hp L x))

/-! ### The clear -/

theorem State.parkIf_of_not_active (h : (s.line L).sup.hook ≠ .active) (b : Bool) : s.parkIf L b = s := by
  unfold State.parkIf State.park
  rw [if_neg h, ite_self]

/-- Outside the working states no supervision record but the baseline changes up to the Fault Monitor. -/
theorem Edits.atFaults_of_not_working (h : (s.line L).sup.hook.working = false) (x : Sample) :
    Edits [.base, .dec, .coll, .pool, .stage] (s.beforeHook L x) (s.atFaults L x) := by
  have hb : ((s.beforeHook L x).line L).sup.hook = (s.line L).sup.hook := by rw [State.beforeHook_line]
  have e : s.hookOf L x = (s.beforeHook L x, {}) := State.hookStep_of_not_working (by rw [hb]; exact h) ..
  unfold State.atFaults State.beforeFaults
  rw [e]
  dsimp only
  have k3 : Edits [.base, .dec, .coll, .pool, .stage] (s.beforeHook L x)
      ((s.beforeHook L x).baselineStep L ((s.line L).conditioned x) x.i).1 := Edits.refl.baselineStep (by decide) ..
  generalize ((s.beforeHook L x).baselineStep L ((s.line L).conditioned x) x.i).1 = s3 at k3
  have k4 := k3.decoderStep (L := L) (by decide) (by decide) .none x.elapsed.val
  generalize s3.decoderStep L .none x.elapsed.val = r4 at k4
  have k5 := k4.collectorStep (L := L) (by decide) (by decide) (by decide) x.elapsed.val false r4.2.digit
  generalize r4.1.collectorStep L x.elapsed.val false r4.2.digit = r5 at k5
  have hidle : (r5.1.line L).sup.hook ≠ .active := by
    rw [(k5.line L).hook (by decide), hb]
    intro ha
    rw [ha] at h
    cases h
  rw [State.parkIf_of_not_active hidle]
  exact k5.poolStep (by decide) (by decide) ..

/-- Settles O29: the Fault Monitor clears POWER_CROSS in the sample, and its GUARD request returns the line. -/
theorem powerCrossClearEndsTheGuard : Obligations.PowerCrossClearEndsTheGuard := by
  intro s L x ha hx hg hs hr ht
  obtain ⟨k, v, hsame, hedits, htake, hcross⟩ := State.takeSample_cross (s := s) (L := L) x (by rw [hg]; rfl)
  have hfault := s.atCross_fault L x
  have htime : (s.atCross L x).time = s.time := (Near.atCross s L x).within.time
  have hreached : (((s.atCross L x).line L).fault.powerCross.timer.advance x.elapsed.val).reached 2000 = true := by
    rw [hfault]
    exact Timer.advance_reached hr ht
  rw [State.evalCross_clear hx (by rw [hfault]; exact hs) hreached] at hsame hedits htake hcross
  dsimp only at hsame hedits htake hcross
  have hkeeps := ((Edits.atFaults_of_not_working (s := s) (L := L) (by rw [hg]; rfl) x).mono
    (qs := [.base, .dec, .coll, .pool, .stage, .fault]) (by decide)).trans
      ((Edits.throughCross s L x hedits).mono (by decide))
  have l := hkeeps.line L
  have hguard : (v.line L).sup.hook = .guard := by rw [l.hook (by decide), State.beforeHook_line, hg]
  have hreturn : (v.line L).sup.guardReturn = (s.line L).sup.guardReturn := by
    rw [l.sup (by decide), State.beforeHook_line]
  have hprofile : (v.line L).profile = (s.line L).profile := by rw [l.profile, State.beforeHook_line]
  have htake' : (s.takeSample L x).1 = v.guardExit L := htake
  generalize hrec : ((s.atCross L x).line L).fault.powerCross.clearedCross x.elapsed.val = r at hsame hedits
  have hstored := State.storeCross_fault (s.atCross L x) L 0 r
  refine ⟨_, exec_powerCrossClear_of_reported ha hcross, ?_⟩
  rw [State.settle_line, htake', State.guardExit_line hguard]
  dsimp only [Supervision.withBaseline]
  rw [hsame.record, hsame.run, State.stage_line, hstored, ← hrec, hreturn, hprofile]
  refine ⟨rfl, rfl, rfl, by cases (s.line L).sup.guardReturn <;> rfl, rfl, rfl, rfl, rfl, by simp [tOnOf], rfl,
    fun hroom => ?_⟩
  have hlast : Stages v (v.guardExit L).settle :=
    ((Edits.refl (ps := allParts)).guardExit (by decide) (by decide)).stages.trans (.settle _)
  have hlater := hedits.stages.trans hlast
  have hm := mem_queue_of_stage (State.atCross_room hroom L x 0 r) hlater
  rw [(Near.storeCross (s.atCross L x) L 0 r).within.time, htime, hfault] at hm
  exact hm

end Sys2Proof.Machine

/-! ## A seizure confirmed by a sample (R21, R26, R42, R67, R84) -/

namespace Sys2Proof.Machine

variable {s t u : State} {L : LineNo}

/-! ### The request for a receiver (R67) -/

theorem State.attach_served (s : State) (r : RxNo) (L : LineNo) : (s.attach r L).served L = true := by
  by_contra h
  rw [Bool.not_eq_true] at h
  exact (State.served_eq_false_iff.mp h).1 r (by rw [State.attach_receiver_self]; exact ⟨rfl, rfl⟩)

theorem State.attach_queue (s : State) (r : RxNo) (L : LineNo) : (s.attach r L).pool.queue = s.pool.queue := rfl

theorem State.request_of_free {r : RxNo} (hn : s.served L = false) (hf : s.freeReceiver = some r) :
    s.request L = s.attach r L := by
  simp [State.request, hn, hf]

theorem State.request_of_none (hn : s.served L = false) (hf : s.freeReceiver = none) :
    s.request L = (s.setQueue (s.pool.queue ++ [⟨L, 0, false⟩])).markTimed L := by
  simp [State.request, hn, hf]

/-- A request leaves its line with a receiver or a place. -/
theorem State.request_served (s : State) (L : LineNo) : (s.request L).served L = true := by
  cases hn : s.served L
  · cases hf : s.freeReceiver with
    | some r =>
      rw [State.request_of_free hn hf]
      exact State.attach_served ..
    | none =>
      rw [State.request_of_none hn hf, State.markTimed_served]
      simp [State.served, State.queued]
  · rw [State.request, if_pos hn, hn]

theorem State.requestIfTone_of_pulse (h : (s.line L).profile.dialMode = .pulse) : s.requestIfTone L = s := by
  simp [State.requestIfTone, h, DialMode.hasTone]

theorem DialMode.hasTone_of_ne {d : DialMode} (h : d ≠ .pulse) : d.hasTone = true := by
  cases d
  case pulse => exact absurd rfl h
  all_goals rfl

theorem State.requestIfTone_of_tone (h : (s.line L).profile.dialMode ≠ .pulse) : s.requestIfTone L = s.request L := by
  rw [State.requestIfTone, if_pos (DialMode.hasTone_of_ne h)]

/-! ### The sample that confirms a seizure -/

namespace State.SameFlags

theorem baselineStep (h : SameFlags L s t) (K : LineNo) (c : Conditioned) (i : Int) :
    SameFlags L s (t.baselineStep K c i).1 := by
  unfold State.baselineStep
  split
  · exact h.setBaseline K _ _
  · exact h

theorem reportCondition (h : SameFlags L s t) (K : LineNo) (c : Condition) (o : CondRecord) (f : CondEffect) (k : Hook)
    (v : Nat) (b : Bool) : SameFlags L s (t.reportCondition K c o f k v b) := by
  cases f
  case none => exact h
  case raise => exact h.stage ..
  case clear => exact h.stage ..

theorem evalIf (h : SameFlags L s t) (K : LineNo) (b : Bool) (c : Condition) (p : Bool) (e : Nat) (k : Hook) (v : Nat) :
    SameFlags L s (t.evalIf b K c p e k v).1 := by
  unfold State.evalIf
  split
  · exact (h.storeCondition K c _).reportCondition ..
  · exact h

theorem evalCross (h : SameFlags L s t) (K : LineNo) (x : Sample) (k : Hook) :
    SameFlags L s (t.evalCross K x k).1 := by
  rw [State.evalCross_eq]
  exact ((h.setFault K _).storeCondition K .powerCross _).reportCondition ..

theorem faultConditions (h : SameFlags L s t) (K : LineNo) (x : Sample) (c : Conditioned) (k : Hook) (b : Bool) :
    SameFlags L s (t.faultConditions K x c k b).1 :=
  (((((h.setFault K _).evalCross K x k).evalIf ..).evalIf ..).evalIf ..).evalIf ..

end State.SameFlags

theorem Collection.advance_opened (c : Collection) (e : Nat) : c.advance e true = c := by
  simp [Collection.advance]

/-- In the sample that opens it a collection is left as it was opened (R84, R88). -/
theorem State.collectorStep_opened (hi : (s.line L).coll.interdigit.running = false) (e : Nat) :
    s.collectorStep L e true none = (s.setColl L (s.line L).coll, {}) := by
  simp [State.collectorStep, State.collTimeouts, Collection.advance_opened, Timer.reached, hi]

/-- A sample that opens a collection and is not high changes after it only the baseline, conditions and records staged. -/
theorem State.afterHook_opened {x : Sample} {c : Conditioned} {r : SupResult} (hd : (s.line L).dec.trainOpen = false)
    (ho : r.outcome = .none) (hopen : r.opened = true) (hi : (s.line L).coll.interdigit.running = false)
    (hg : (s.line L).sup.hook ≠ .guard) (hx : sampleHigh x = false) :
    Edits [.base, .fault, .stage] s (s.afterHook L x c false r).1 ∧
      SameFlags L s (s.afterHook L x c false r).1 := by
  have k3 : Edits [.base, .fault, .stage] s (s.baselineStep L c x.i).1 := Edits.refl.baselineStep (by decide) ..
  have f3 : SameFlags L s (s.baselineStep L c x.i).1 := (State.SameFlags.refl L s).baselineStep ..
  have l3 := k3.line L
  generalize hs3 : s.baselineStep L c x.i = r3 at k3 f3 l3
  have h4 : r3.1.decoderStep L r.outcome x.elapsed.val = (r3.1, {}) :=
    State.decoderStep_of_closed (by rw [l3.dec (by decide)]; exact hd) (.inl ho) _
  have h5 : r3.1.collectorStep L x.elapsed.val true none = (r3.1.setColl L (r3.1.line L).coll, {}) :=
    State.collectorStep_opened (by rw [l3.coll (by decide)]; exact hi) _
  have k5 : Edits [.base, .fault, .stage] s (r3.1.setColl L (r3.1.line L).coll) :=
    k3.setLine L _ (Line.Keeps.refl ..)
  have f5 : SameFlags L s (r3.1.setColl L (r3.1.line L).coll) := f3.setColl ..
  have hook5 : ((r3.1.setColl L (r3.1.line L).coll).line L).sup.hook = (s.line L).sup.hook :=
    (k5.line L).hook (by decide)
  generalize hs5 : r3.1.setColl L (r3.1.line L).coll = s5 at h5 k5 f5 hook5
  have k7 := k5.faultConditions (L := L) (by decide) (by decide) x c (r3.1.line L).sup.hook r3.2
  have f7 := f5.faultConditions L x c (r3.1.line L).sup.hook r3.2
  have g7 := State.faultConditions_guard_of_low (s := s5) (L := L) hx c (r3.1.line L).sup.hook r3.2
  have hook7 := (k7.line L).hook (by decide)
  generalize hs7 : s5.faultConditions L x c (r3.1.line L).sup.hook r3.2 = r7 at k7 f7 g7 hook7
  have e : (s.afterHook L x c false r).1 = r7.1 := by
    simp only [State.afterHook, hs3, h4, hopen, h5, State.parkIf, Bool.false_eq_true, if_false, State.poolStep,
      Bool.not_false, if_true, hs7]
    exact State.guardRequest_of_not_guard g7 (by rw [hook7]; exact hg)
  rw [e]
  exact ⟨k7, f7⟩

/-- A seizure confirmed at a sample (R21). -/
theorem State.hookStep_of_seized (x : Sample) (hh : (s.line L).sup.hook = .seizePending)
    (ht : (s.line L).sup.timer.reached (s.line L).profile.seizeConfirm = true) :
    s.hookStep L x .loop = (s.confirmSeizure L x, { opened := true, seizeConfirm := true }) := by
  simp [State.hookStep, hh, ht]

/-- What a sample leaves that confirms a seizure: the seizure, and the later blocks behind it. -/
theorem State.takeSample_of_seized {x : Sample} (hh : (s.line L).sup.hook = .seizePending)
    (hf : (s.line L).filtered x.i = .loop) (hr : (s.line L).sup.timer.running = true)
    (ht : (s.line L).profile.seizeConfirm ≤ min 65535 ((s.line L).sup.timer.value + x.elapsed.val)) :
    s.takeSample L x = ((s.beforeHook L x).confirmSeizure L x).afterHook L x ((s.line L).conditioned x) (s.served L)
      { opened := true, seizeConfirm := true } := by
  have hb := s.beforeHook_line L x
  have e : s.hookOf L x = ((s.beforeHook L x).confirmSeizure L x, { opened := true, seizeConfirm := true }) := by
    unfold State.hookOf
    rw [show ((s.line L).conditioned x).filtered = .loop from hf]
    exact State.hookStep_of_seized x (by rw [hb]; exact hh) (by rw [hb]; exact Timer.advance_reached hr ht)
  rw [State.takeSample_of_taken x (by rw [hh]; rfl), e]

theorem exec_seizeConfirm_of_reported {x : Sample} (ha : s.sampleArrives L x = true)
    (h : (s.takeSample L x).2.sup.seizeConfirm = true) :
    exec (.seizeConfirm L x) s = .next (s.takeSample L x).1.settle := by
  change s.sampleRow L x (fun r => r.sup.seizeConfirm) = _
  simp [State.sampleRow, ha, h]

theorem State.receiver_of_pool (h : t.pool = s.pool) (r : RxNo) : t.receiver r = s.receiver r := by
  unfold State.receiver
  rw [h]

theorem State.freeReceiver_of_pool (h : t.pool = s.pool) : t.freeReceiver = s.freeReceiver := by
  simp [State.freeReceiver, State.receiver_of_pool h]

/-- The record of a confirmed seizure is the first one staged (R21). -/
theorem State.stagedFirst_of_offHook {x : Sample} (hq : u.journal.queue = s.journal.queue)
    (hd : u.journal.dropped = s.journal.dropped) (h : Stages (u.offHook L x) t) :
    s.stagedFirst t u.time (some L) (.offHook x.i.natAbs (u.line L).sup.startMark (rEst x)) := by
  have hj : ((u.stopTimer L).changeHook L .active).journal = _ :=
    ((Edits.refl (ps := [.sup])).stopTimer (by decide)).changeHook (by decide) .active |>.journal (by decide)
  have ht : ((u.stopTimer L).changeHook L .active).time = u.time :=
    ((Near.refl L u).stopTimer.changeHook _).within.time
  rw [← ht]
  exact stagedFirst_of_stage (by rw [hj, hq]) (by rw [hj, hd]) h

/-- Settles O19: the sample is the seizure, whose line and request the later blocks of the sample leave alone. -/
theorem confirmedSeizureOpensTheCall : Obligations.ConfirmedSeizureOpensTheCall := by
  intro s L x ha hh hf hr ht hd hn hx
  have e := State.takeSample_of_seized hh hf hr ht
  rw [hn] at e
  have hsup : (s.takeSample L x).2.sup.seizeConfirm = true := by
    rw [e]
    rfl
  refine ⟨_, exec_seizeConfirm_of_reported ha hsup, ?_⟩
  have hb := s.beforeHook_line L x
  generalize hu : s.beforeHook L x = u at e hb
  have hupool : u.pool = s.pool := by rw [← hu]; rfl
  have hcall := u.called_line L x
  have hfound := u.called_found L x
  have hcpool : (u.called L x).pool = s.pool := ((Edits.called u L x).pool (by decide)).trans hupool
  have kreq := Edits.requestIfTone_pool (u.called L x) L
  have freq : State.SameFlags L (u.called L x) ((u.called L x).requestIfTone L) := by
    unfold State.requestIfTone
    split
    · exact (State.SameFlags.refl L _).request L
    · exact .refl L _
  have lreq := kreq.line L
  rw [State.confirmSeizure_eq] at e
  have hdial : ((u.called L x).line L).profile.dialMode = (s.line L).profile.dialMode := by rw [hcall, hb]
  obtain ⟨k, fl⟩ := State.afterHook_opened (s := (u.called L x).requestIfTone L) (L := L) (x := x)
    (c := (s.line L).conditioned x) (r := { opened := true, seizeConfirm := true })
    (by rw [lreq.dec (by decide), hcall, hb]; exact hd) rfl rfl (by rw [lreq.coll (by decide), hcall]; rfl)
    (by rw [lreq.hook (by decide), hcall]; nofun) hx
  have l := k.line L
  have hpool := (State.settle_pool (s.takeSample L x).1).trans ((congrArg (·.1.pool) e).trans (k.pool (by decide)))
  have hcoll : ((s.takeSample L x).1.line L).coll = ((u.called L x).line L).coll := by
    rw [e, l.coll (by decide), lreq.coll (by decide)]
  have hhook : ((s.takeSample L x).1.line L).sup.hook = .active := by
    rw [e, l.hook (by decide), lreq.hook (by decide), hcall]
  have htimer : ((s.takeSample L x).1.line L).sup.timer = ((u.called L x).line L).sup.timer := by
    rw [e, l.sup_timer (by decide), lreq.sup_timer (by decide)]
  have hmark : ((s.takeSample L x).1.line L).sup.startMark = ((u.called L x).line L).sup.startMark := by
    rw [e, l.sup (by decide)]
    dsimp only
    rw [lreq.sup (by decide)]
  have hflag : ((s.takeSample L x).1.line L).marks.foundAtStart = ((u.called L x).line L).marks.foundAtStart := by
    rw [e, fl.found, freq.found]
  rw [State.settle_line, hcoll, hhook, htimer, hmark, hflag, hfound, hcall]
  refine ⟨rfl, rfl, rfl, by rw [hb], rfl, rfl, rfl, rfl, rfl, ?_, fun hp => ?_, fun hp => ?_, fun hp r hfree => ?_,
    fun hp hfree => ?_⟩
  · have later : Stages (u.offHook L x) (s.takeSample L x).1.settle := by
      rw [e]
      exact (((Edits.afterOffHook u L x).stages.trans kreq.stages).trans k.stages).trans (.settle _)
    have k := State.stagedFirst_of_offHook (s := s) (by rw [← hu]; rfl) (by rw [← hu]; rfl) later
    rw [hb, show u.time = s.time by rw [← hu]; rfl] at k
    exact k
  · rw [hpool, State.requestIfTone_of_pulse (by rw [hdial]; exact hp), hcpool]
  · rw [State.served_of_pool hpool, State.requestIfTone_of_tone (by rw [hdial]; exact hp)]
    exact State.request_served ..
  · rw [State.requestIfTone_of_tone (by rw [hdial]; exact hp), State.request_of_free
      ((State.served_of_pool hcpool).trans hn) ((State.freeReceiver_of_pool hcpool).trans hfree)] at hpool
    rw [State.receiver_of_pool hpool, State.attach_receiver_self, hpool, State.attach_queue, hcpool]
    exact ⟨rfl, rfl, rfl⟩
  · rw [State.requestIfTone_of_tone (by rw [hdial]; exact hp), State.request_of_none
      ((State.served_of_pool hcpool).trans hn) ((State.freeReceiver_of_pool hcpool).trans hfree)] at hpool
    rw [hpool, State.markTimed_pool, State.setQueue_rx, State.setQueue_queue, hcpool]
    exact ⟨rfl, rfl⟩

end Sys2Proof.Machine

/-! ## A first-digit timeout at a sample (R27, R70, R99) -/

namespace Sys2Proof.Machine

variable {s t u : State} {L : LineNo}

theorem Edits.time {ps : List EditPart} (h : Edits ps s t) : t.time = s.time := by
  induction h with
  | refl => rfl
  | setLine _ _ _ _ ih => exact ih
  | setReceiver _ _ _ _ ih => exact ih
  | setQueue _ _ _ ih => exact ih
  | markUntimed _ _ ih => exact ih
  | stage _ _ l b v ih => exact (Within.stage _ l b v).time.trans ih

/-! ### The Supervision Engine's step of a line that stays in its call -/

theorem State.hookStep_active_loop (x : Sample) (h : (s.line L).sup.hook = .active) : s.hookStep L x .loop = (s, {}) := by
  simp [State.hookStep, h]

theorem State.hookStep_active_noLoop (x : Sample) (h : (s.line L).sup.hook = .active) :
    s.hookStep L x .noLoop = (s.beginBreak L .openInterval, { outcome := .breakBegun }) := by
  simp [State.hookStep, h]

theorem State.hookStep_break_lasts (x : Sample) (h : (s.line L).sup.hook = .openInterval)
    (ht : (s.line L).sup.timer.reached ((s.line L).profile.flashMax + 1) = false) :
    s.hookStep L x .noLoop = (s, {}) := by
  simp [State.hookStep, h, ht]

/-- A line that stays in its call: its hook state after the sample is the one that the statement names, and nothing is
staged, opened or handed to the decoder but a break (R22, R24). -/
theorem State.hookOf_of_staysInCall {x : Sample} (h : (s.line L).staysInCall x = true) :
    Edits [.sup] (s.beforeHook L x) (s.hookOf L x).1 ∧
      ((s.hookOf L x).1.line L).sup.hook = (s.line L).hookInCall x ∧
      ((s.hookOf L x).2.outcome = .none ∨ (s.hookOf L x).2.outcome = .breakBegun) ∧ (s.hookOf L x).2.opened = false := by
  have hb := s.beforeHook_line L x
  have hcond : ((s.line L).conditioned x).filtered = (s.line L).filtered x.i := rfl
  simp only [Line.staysInCall, Bool.and_eq_true, Bool.not_eq_true', Bool.or_eq_true, decide_eq_true_eq] at h
  unfold State.hookOf
  rw [hcond]
  obtain ⟨-, hh | ⟨⟨hh, hf⟩, ht⟩⟩ := h
  · have hh' : ((s.beforeHook L x).line L).sup.hook = .active := by rw [hb]; exact hh
    cases hf : (s.line L).filtered x.i
    · rw [State.hookStep_active_noLoop x hh']
      exact ⟨Edits.refl.beginBreak (by decide) _, by simp [State.beginBreak_hook, Line.hookInCall, hf], .inr rfl, rfl⟩
    · rw [State.hookStep_active_loop x hh']
      exact ⟨.refl, by simp [hh', Line.hookInCall, hf, hh], .inl rfl, rfl⟩
  · have hh' : ((s.beforeHook L x).line L).sup.hook = .openInterval := by rw [hb]; exact hh
    rw [hf, State.hookStep_break_lasts x hh' (by rw [hb]; exact ht)]
    exact ⟨.refl, by simp [hh', Line.hookInCall, hh], .inl rfl, rfl⟩

theorem Line.staysInCall_trainOpen {ln : Line} {x : Sample} (h : ln.staysInCall x = true) : ln.dec.trainOpen = false := by
  simp only [Line.staysInCall, Bool.and_eq_true, Bool.not_eq_true'] at h
  exact h.1

theorem Line.staysInCall_discards {ln : Line} {x : Sample} (h : ln.staysInCall x = true) :
    ln.sup.hook.discards = false := by
  simp only [Line.staysInCall, Bool.and_eq_true, Bool.or_eq_true, decide_eq_true_eq] at h
  obtain ⟨-, h | ⟨⟨h, -⟩, -⟩⟩ := h <;> rw [h] <;> rfl

theorem Line.hookInCall_cases (ln : Line) (x : Sample) :
    ln.hookInCall x = .active ∨ ln.hookInCall x = .openInterval := by
  unfold Line.hookInCall
  split
  · exact .inl rfl
  · exact .inr rfl

/-! ### The timeout and the park -/

/-- The collector at a sample that brings the first-digit timer to its limit (R99). -/
theorem State.collectorStep_firstDigit {e : Nat} (hc : (s.line L).coll.state = .collecting)
    (ht : ((s.line L).coll.firstDigit.advance e).reached (1000 * (s.line L).profile.firstDigitTimeout) = true) :
    s.collectorStep L e false none =
      ((s.setColl L ((s.line L).coll.advance e false)).noDigits L,
        { firstDigitTimeout := true, park := !(s.line L).coll.resumed }) := by
  simp [State.collectorStep, State.collTimeouts, Collection.advance, hc, ht]

/-- NO_DIGITS staged, before the collection is finished. -/
def State.noDigitsStaged (s : State) (L : LineNo) : State :=
  s.stage (some L) (.noDigits (s.line L).coll.resumed)

theorem Edits.afterNoDigits (s : State) (L : LineNo) : Edits [.coll, .pool] (s.noDigitsStaged L) (s.noDigits L) :=
  Edits.finishCollection ..

/-- The collection after a timeout, and the line left without receiver and place (R70, R99). -/
theorem State.noDigits_line (s : State) (L : LineNo) :
    ((s.noDigits L).line L).coll = (s.line L).coll.finished ∧ (s.poolSound → (s.noDigits L).served L = false) := by
  have hl : (s.noDigitsStaged L).line L = s.line L := State.stage_line ..
  have e : s.noDigits L = State.release
      (((s.noDigitsStaged L).setColl L ((s.noDigitsStaged L).line L).coll.finished).markTimed L) L := rfl
  rw [e]
  refine ⟨?_, fun hs => State.release_not_served (State.poolSound_of_pool (s := s) (State.stage_pool ..) hs)⟩
  rw [((Edits.refl (ps := [.pool])).release (by decide) L |>.line L).coll (by decide), State.line_markTimed, if_pos rfl,
    State.line_setColl_self, hl]

/-- A park before its record. -/
def State.parkedLine (s : State) (L : LineNo) : State := ((s.dropTrain L).changeHook L .parked).release L

theorem Edits.parkedLine (s : State) (L : LineNo) : Edits [.sup, .dec, .pool] s (s.parkedLine L) :=
  ((Edits.refl.dropTrain (by decide)).changeHook (by decide) .parked).release (by decide) L

theorem State.parkIf_parks (h : (s.line L).sup.hook = .active) :
    s.parkIf L true = (s.parkedLine L).stage (some L) .park := by
  simp only [State.parkIf, State.park, h, if_true]
  rfl

theorem State.parkedLine_hook (s : State) (L : LineNo) : ((s.parkedLine L).line L).sup.hook = .parked := by
  unfold State.parkedLine
  rw [((Edits.refl (ps := [.pool])).release (by decide) L |>.line L).hook (by decide), State.changeHook_hook]

theorem State.parkedLine_not_served (h : s.served L = false) : (s.parkedLine L).served L = false := by
  have hp : ((s.dropTrain L).changeHook L .parked).pool = s.pool :=
    ((Edits.refl (ps := [.sup, .dec])).dropTrain (by decide)).changeHook (by decide) .parked |>.pool (by decide)
  have hn := (State.served_of_pool hp).trans h
  unfold State.parkedLine
  rw [State.release_of_not_served hn, hn]

/-- A park request at a line without receiver and place leaves it without (R27). -/
theorem State.parkIf_not_served (h : s.served L = false) (b : Bool) : (s.parkIf L b).served L = false := by
  by_cases ha : (s.line L).sup.hook = .active
  · cases b
    · exact h
    · rw [State.parkIf_parks ha, State.served_of_pool (State.stage_pool ..)]
      exact State.parkedLine_not_served h
  · rwa [State.parkIf_of_not_active ha]

/-- The hook state after the park of a timeout (R99). -/
theorem State.parkIf_hook_eq (s : State) (L : LineNo) (b : Bool) :
    ((s.parkIf L b).line L).sup.hook =
      if (s.line L).sup.hook = .active ∧ b = true then .parked else (s.line L).sup.hook := by
  by_cases ha : (s.line L).sup.hook = .active
  · cases b
    · rw [if_neg (fun h => nomatch h.2)]
      rfl
    · rw [if_pos ⟨ha, rfl⟩, State.parkIf_parks ha, State.stage_line, State.parkedLine_hook]
  · rw [if_neg (fun h => ha h.1), State.parkIf_of_not_active ha]

/-! ### The sample -/

/-- What a sample leaves that is not high and at which the first-digit timer of a line with its train closed reaches its
limit: the timeout, its park, and nothing more of the line's collection and hook state. -/
theorem State.afterHook_firstDigit {x : Sample} {c : Conditioned} {w : Bool} {r : SupResult}
    (hd : (s.line L).dec.trainOpen = false) (ho : r.outcome = .none ∨ r.outcome = .breakBegun)
    (hopen : r.opened = false) (hc : (s.line L).coll.state = .collecting)
    (ht : ((s.line L).coll.firstDigit.advance x.elapsed.val).reached
      (1000 * (s.line L).profile.firstDigitTimeout) = true)
    (hg : (s.line L).sup.hook ≠ .guard) (hx : sampleHigh x = false) :
    ∃ v, Edits [.base, .coll] s v ∧ (v.line L).coll = (s.line L).coll.advance x.elapsed.val false ∧
      Edits [.pool, .fault, .stage] ((v.noDigits L).parkIf L (!(s.line L).coll.resumed)) (s.afterHook L x c w r).1 ∧
      (((v.noDigits L).parkIf L (!(s.line L).coll.resumed)).served L = false →
        (s.afterHook L x c w r).1.served L = false) ∧
      (s.afterHook L x c w r).2.coll.firstDigitTimeout = true := by
  have k3 : Edits [.base, .coll] s (s.baselineStep L c x.i).1 := Edits.refl.baselineStep (by decide) ..
  have l3 : (s.line L).Keeps [.base] ((s.baselineStep L c x.i).1.line L) :=
    (Edits.refl.baselineStep (by decide) ..).line L
  generalize hs3 : s.baselineStep L c x.i = r3 at k3 l3
  have hcoll : (r3.1.line L).coll = (s.line L).coll := l3.coll (by decide)
  have h4 : r3.1.decoderStep L r.outcome x.elapsed.val = (r3.1, {}) :=
    State.decoderStep_of_closed (by rw [l3.dec (by decide)]; exact hd) ho _
  have h5 := State.collectorStep_firstDigit (s := r3.1) (L := L) (e := x.elapsed.val) (by rw [hcoll]; exact hc)
    (by rw [hcoll, l3.profile]; exact ht)
  rw [hcoll] at h5
  have kv := k3.setColl (L := L) (by decide) ((s.line L).coll.advance x.elapsed.val false)
  have hv := r3.1.line_setColl_self L ((s.line L).coll.advance x.elapsed.val false)
  have hvhook := (kv.line L).hook (by decide)
  generalize r3.1.setColl L ((s.line L).coll.advance x.elapsed.val false) = v at h5 kv hv hvhook
  have hndhook : ((v.noDigits L).line L).sup.hook = (s.line L).sup.hook :=
    (((Edits.refl (ps := [.stage, .coll, .pool])).noDigits (by decide) (by decide) (by decide)).line L |>.hook
      (by decide)).trans hvhook
  have hphook := State.parkIf_hook_eq (v.noDigits L) L (!(s.line L).coll.resumed)
  rw [hndhook] at hphook
  generalize hs5 : (v.noDigits L).parkIf L (!(s.line L).coll.resumed) = s5 at hphook
  have k6 : Edits [.pool, .fault, .stage] s5 (s5.poolStep L x.elapsed.val (!w)).1 :=
    Edits.refl.poolStep (by decide) (by decide) ..
  have hn6 : s5.served L = false → (s5.poolStep L x.elapsed.val (!w)).1 = s5 := fun hn => by
    rw [State.poolStep_of_not_served hn]
  generalize hs6 : s5.poolStep L x.elapsed.val (!w) = r6 at k6 hn6
  have kf : Edits [.fault, .stage] r6.1 (r6.1.faultConditions L x c (r3.1.line L).sup.hook r3.2).1 :=
    Edits.refl.faultConditions (by decide) (by decide) ..
  have k7 := k6.trans (kf.mono (by decide))
  have g7 := State.faultConditions_guard_of_low (s := r6.1) (L := L) hx c (r3.1.line L).sup.hook r3.2
  have hook7 := (k7.line L).hook (by decide)
  generalize hs7 : r6.1.faultConditions L x c (r3.1.line L).sup.hook r3.2 = r7 at kf k7 g7 hook7
  have hguard : (r7.1.line L).sup.hook ≠ .guard := by
    rw [hook7, hphook]
    split
    · nofun
    · exact hg
  have e : (s.afterHook L x c w r).1 = r7.1 ∧ (s.afterHook L x c w r).2.coll.firstDigitTimeout = true := by
    simp only [State.afterHook, hs3, h4, hopen, h5, hs5, hs6, hs7, and_true]
    exact State.guardRequest_of_not_guard g7 hguard
  refine ⟨v, kv, by rw [hv], ?_, fun hn => ?_, e.2⟩
  · rw [e.1, hs5]
    exact k7
  · rw [hs5] at hn
    rw [e.1, State.served_of_pool (kf.pool (by decide)), hn6 hn, hn]

theorem exec_firstDigitTimeout_of_reported {x : Sample} (ha : s.sampleArrives L x = true)
    (h : (s.takeSample L x).2.coll.firstDigitTimeout = true) :
    exec (.firstDigitTimeout L x) s = .next (s.takeSample L x).1.settle := by
  change s.sampleRow L x (fun r => r.coll.firstDigitTimeout) = _
  simp [State.sampleRow, ha, h]

/-- PARK follows NO_DIGITS in the queue (R27, R99). -/
theorem State.noDigits_then_park {now : Word} (ha : ((s.noDigits L).line L).sup.hook = .active) (hnow : s.time = now)
    (hroom : s.journal.queue.length + 2 ≤ 32)
    (h : Stages ((s.noDigits L).parkIf L true) t) :
    s.journal.queue ++ [⟨some L, now, .noDigits (s.line L).coll.resumed⟩, ⟨some L, now, .park⟩] <+:
      t.journal.queue := by
  have hq1 : (s.noDigitsStaged L).journal.queue = s.journal.queue ++ [⟨some L, now, .noDigits (s.line L).coll.resumed⟩] := by
    rw [State.noDigitsStaged, State.stage_queue, if_pos (by omega), hnow]
  have hq2 : ((s.noDigits L).parkedLine L).journal.queue = (s.noDigitsStaged L).journal.queue := by
    rw [(Edits.parkedLine ..).journal (by decide), (Edits.afterNoDigits ..).journal (by decide)]
  have htime : ((s.noDigits L).parkedLine L).time = now := by
    rw [← hnow]
    exact ((((Near.refl L s).noDigits.dropTrain).changeHook .parked).release L).within.time
  have hp := h.appended
  rw [State.parkIf_parks ha, State.stage_queue, hq2, hq1, htime, if_pos (by simp; omega), List.append_assoc] at hp
  exact hp

/-- Settles O22: the sample is the timeout, and the later blocks of the sample leave its collection alone. -/
theorem firstDigitTimeoutParksTheLine : Obligations.FirstDigitTimeoutParksTheLine := by
  intro s L x ha hstay hx hc hr ht
  have hb := s.beforeHook_line L x
  obtain ⟨kh, hhook, hout, hopen⟩ := State.hookOf_of_staysInCall hstay
  have e := State.takeSample_of_taken x (Line.staysInCall_discards hstay)
  generalize (s.hookOf L x).1 = u at kh hhook e
  generalize (s.hookOf L x).2 = r at hout hopen e
  have l := kh.line L
  have hdec : (u.line L).dec = (s.line L).dec := by rw [l.dec (by decide), hb]
  have hcoll : (u.line L).coll = (s.line L).coll := by rw [l.coll (by decide), hb]
  have hprofile : (u.line L).profile = (s.line L).profile := by rw [l.profile, hb]
  obtain ⟨v, kv, hv, klast, hserved, hreport⟩ := State.afterHook_firstDigit (s := u) (L := L) (x := x)
    (c := (s.line L).conditioned x) (w := s.served L) (r := r)
    (by rw [hdec]; exact Line.staysInCall_trainOpen hstay) hout hopen (by rw [hcoll]; exact hc)
    (by rw [hcoll, hprofile]; exact Timer.advance_reached hr ht)
    (by rw [hhook]; rcases (s.line L).hookInCall_cases x with h | h <;> rw [h] <;> nofun) hx
  rw [hcoll] at hv klast hserved
  have hvhook : (v.line L).sup.hook = (s.line L).hookInCall x := by rw [(kv.line L).hook (by decide), hhook]
  have hndhook : ((v.noDigits L).line L).sup.hook = (s.line L).hookInCall x :=
    ((Edits.refl (ps := [.stage, .coll, .pool])).noDigits (by decide) (by decide) (by decide) |>.line L |>.hook
      (by decide)).trans hvhook
  obtain ⟨hndcoll, hndserved⟩ := v.noDigits_line L
  have kpark : Edits [.sup, .dec, .pool, .stage] (v.noDigits L)
      ((v.noDigits L).parkIf L (!(s.line L).coll.resumed)) :=
    Edits.refl.parkIf (by decide) (by decide) (by decide) (by decide) _
  have hfinal : ((s.takeSample L x).1.line L).coll =
      ((s.line L).coll.advance x.elapsed.val false).finished := by
    rw [e, (klast.line L).coll (by decide), (kpark.line L).coll (by decide), hndcoll, hv]
  have hpark := State.parkIf_hook_eq (v.noDigits L) L (!(s.line L).coll.resumed)
  rw [hndhook] at hpark
  have hadv : ((s.line L).coll.advance x.elapsed.val false).string = (s.line L).coll.string ∧
      ((s.line L).coll.advance x.elapsed.val false).resumed = (s.line L).coll.resumed := by
    unfold Collection.advance
    split <;> exact ⟨rfl, rfl⟩
  have hvj : v.journal = _ := kv.journal (by decide)
  have huj : u.journal = _ := kh.journal (by decide)
  have hq : v.journal.queue = s.journal.queue := by
    rw [hvj, huj]
    rfl
  have hd : v.journal.dropped = s.journal.dropped := by
    rw [hvj, huj]
    rfl
  have htime : v.time = s.time := kv.time.trans kh.time
  have hlater : Stages ((v.noDigits L).parkIf L (!(s.line L).coll.resumed)) (s.takeSample L x).1.settle := by
    rw [e]
    exact klast.stages.trans (.settle _)
  refine ⟨_, exec_firstDigitTimeout_of_reported ha (by rw [e]; exact hreport), ?_⟩
  rw [State.settle_line, hfinal]
  refine ⟨rfl, hadv.1, rfl, rfl, ?_, ?_, fun hact hres hroom => ?_, fun hs => ?_⟩
  · have hfirst := stagedFirst_of_stage (s := s) hq hd
      (((Edits.afterNoDigits v L).stages.trans kpark.stages).trans hlater)
    rwa [htime, hv, hadv.2] at hfirst
  · rw [e, (klast.line L).hook (by decide), hpark]
    cases (s.line L).coll.resumed <;> simp
  · rw [hres] at hlater
    have h2 := State.noDigits_then_park (s := v) (L := L) (by rw [hndhook, hact]) htime (by rw [hq]; exact hroom) hlater
    rwa [hq, hv, hadv.2, hres] at h2
  · have hpool : v.pool = s.pool := by
      rw [kv.pool (by decide), kh.pool (by decide)]
      rfl
    rw [State.served_of_pool (State.settle_pool _), e]
    exact hserved (State.parkIf_not_served (hndserved (State.poolSound_of_pool hpool hs)) _)

end Sys2Proof.Machine

/-! ## A train that ends by the digit-end threshold at a sample (R45, R49 to R54, R89, R90, R100) -/

namespace Sys2Proof.Machine

variable {s t u : State} {L : LineNo}

/-! ### The record and the break at the end of a train -/

/-- The decoder record with its make timer RUNNING at `m`, as it is compared with the threshold (R45). -/
def PulseDecoder.madeAt (d : PulseDecoder) (m : Nat) : PulseDecoder := { d with make := m, makeState := .running }

theorem PulseDecoder.hit_eq_madeAt (d : PulseDecoder) (n : Nat) : d.hit n = d.madeAt (min 65535 (d.make + n)) := rfl

theorem PulseDecoder.advance_eq_madeAt {d : PulseDecoder} (h : d.makeState = .running) (e : Nat) :
    d.advance e = d.madeAt (min 65535 (d.make + e)) := by
  simp [PulseDecoder.advance, PulseDecoder.madeAt, h, Config.timerMax]

theorem breakClass_eq_hit {p : Profile} {n : Nat} (h : n < p.breakMin ∨ n ≤ p.pulseBreakMax ∧ p.dialMode = .tone) :
    breakClass p n = .hit n := by
  unfold breakClass
  split
  · rfl
  · obtain hn | ⟨hn, hm⟩ := h
    · contradiction
    · rw [if_pos hn, hm]
      rfl

/-- A hit takes the line back to ACTIVE and goes to the decoder (R25). -/
theorem State.endBreak_of_hit {n : Nat}
    (h : breakClass (s.line L).profile (s.line L).sup.timer.value = .hit n) :
    s.endBreak L = ((s.stopTimer L).changeHook L .active, { outcome := .hit n }) := by
  simp [State.endBreak, h]

theorem State.hookStep_break_ends (x : Sample) (h : (s.line L).sup.hook = .openInterval)
    (ht : (s.line L).sup.timer.reached ((s.line L).profile.flashMax + 1) = false) :
    s.hookStep L x .loop = s.endBreak L := by
  simp [State.hookStep, h, ht]

/-! ### The decoder -/

/-- The answer `o` of the decoder at a state `v` ends the train `d` of a line: the record is emptied, and either
DIAL_ERROR alone is staged or the digit alone is handed on (R49 to R51, R54). -/
structure TrainEnded (L : LineNo) (d : PulseDecoder) (p : Profile) (v : State) (o : State × DecResult) : Prop where
  dec : (o.1.line L).dec = d.emptied
  ended : o.2.ended = true
  error : d.overrun = true →
    ∃ w, Edits [.dec] v w ∧ Edits [.dec] (w.stage (some L) (.pulseOverrun (d.report 0))) o.1
  digit : d.overrun = false → Edits [.dec] v o.1 ∧ o.2.digit = some (d.digit p)

/-- The comparison with a make timer at or past the threshold ends the train (R45, R49). -/
theorem State.endTrain_of_reached {d : PulseDecoder} {m : Nat} (ho : d.trainOpen = true) (hm : d.threshold ≤ m) :
    TrainEnded L d (s.line L).profile s ((s.setDec L (d.madeAt m)).endTrain L) := by
  have kw : Edits [.dec] s (s.setDec L (d.madeAt m)) := Edits.refl.setDec (by decide) _
  have hl : (s.setDec L (d.madeAt m)).line L = { s.line L with dec := d.madeAt m } := s.line_setDec_self ..
  generalize s.setDec L (d.madeAt m) = w at kw hl
  have e : w.endTrain L =
      if d.overrun then
        ((w.stage (some L) (.pulseOverrun (d.report 0))).setDec L d.emptied, { ended := true })
      else (w.setDec L d.emptied, { digit := some (d.digit (s.line L).profile), ended := true }) := by
    unfold State.endTrain
    rw [hl]
    exact if_pos ⟨ho, rfl, hm⟩
  rw [e]
  cases hover : d.overrun
  · exact ⟨by simp, rfl, fun h => (nomatch hover.symm.trans h), fun _ => ⟨kw.setDec (by decide) _, rfl⟩⟩
  · exact ⟨by simp, rfl, fun _ => ⟨w, kw, Edits.refl.setDec (by decide) _⟩, fun h => (nomatch hover.symm.trans h)⟩

/-- A train that has ended leaves no make timer to hold at the break that begins (R52). -/
theorem TrainEnded.hold {d : PulseDecoder} {p : Profile} {o : State × DecResult} (h : TrainEnded L d p s o) :
    TrainEnded L d p s (o.1.setDec L (o.1.line L).dec.hold, o.2) where
  dec := by
    rw [State.line_setDec_self, h.dec]
    rfl
  ended := h.ended
  error hover :=
    let ⟨w, kw, k⟩ := h.error hover
    ⟨w, kw, k.setDec (by decide) _⟩
  digit hover :=
    let ⟨k, hdigit⟩ := h.digit hover
    ⟨k.setDec (by decide) _, hdigit⟩

/-- A RUNNING make timer that reaches the threshold ends the train in ACTIVE, and when a break begins (R45, R52). -/
theorem State.decoderStep_of_reached {o : Outcome} {e : Nat} (hopen : (s.line L).dec.trainOpen = true)
    (hrun : (s.line L).dec.makeState = .running)
    (hm : (s.line L).dec.threshold ≤ min 65535 ((s.line L).dec.make + e))
    (ho : o = .none ∧ (s.line L).sup.hook = .active ∨ o = .breakBegun) :
    TrainEnded L (s.line L).dec (s.line L).profile s (s.decoderStep L o e) := by
  have k := State.endTrain_of_reached (s := s) (L := L) hopen hm
  rw [← PulseDecoder.advance_eq_madeAt hrun] at k
  obtain ⟨rfl, hh⟩ | rfl := ho
  · simpa [State.decoderStep, hopen, hrun, hh] using k
  · simpa [State.decoderStep, hopen] using k.hold

/-- A hit whose length brings the make timer to the threshold ends the train (R53). -/
theorem State.decoderStep_hit_of_reached {n e : Nat} (hopen : (s.line L).dec.trainOpen = true)
    (hm : (s.line L).dec.threshold ≤ min 65535 ((s.line L).dec.make + n)) :
    TrainEnded L (s.line L).dec (s.line L).profile s (s.decoderStep L (.hit n) e) := by
  have k := State.endTrain_of_reached (s := s) (L := L) hopen hm
  rw [← PulseDecoder.hit_eq_madeAt] at k
  simpa [State.decoderStep, hopen] using k

/-! ### The Supervision Engine's step, and the decoder's after it -/

/-- The Pulse Decoder's step of a sample at a line that is not ON_HOOK, whose baseline no sample updates. -/
def State.decoderOf (s : State) (L : LineNo) (x : Sample) : State × DecResult :=
  (s.hookOf L x).1.decoderStep L (s.hookOf L x).2.outcome x.elapsed.val

theorem Line.trainEnds_cases {ln : Line} {x : Sample} (h : ln.trainEnds x = true) :
    ln.dec.trainOpen = true ∧
      (ln.sup.hook = .active ∧ ln.dec.makeState = .running ∧
          ln.dec.threshold ≤ min 65535 (ln.dec.make + x.elapsed.val) ∨
        ln.sup.hook = .openInterval ∧ ln.filtered x.i = .loop ∧
          (ln.timerAt x.elapsed.val).reached (ln.profile.flashMax + 1) = false ∧
          breakClass ln.profile (ln.timerAt x.elapsed.val).value = .hit (ln.timerAt x.elapsed.val).value ∧
          ln.dec.threshold ≤ min 65535 (ln.dec.make + (ln.timerAt x.elapsed.val).value)) := by
  simp only [Line.trainEnds, Bool.and_eq_true, Bool.or_eq_true, Bool.not_eq_true', decide_eq_true_eq] at h
  obtain ⟨ho, ⟨⟨hh, hr⟩, hm⟩ | ⟨⟨⟨⟨hh, hf⟩, ht⟩, hb⟩, hm⟩⟩ := h
  · exact ⟨ho, .inl ⟨hh, hr, hm⟩⟩
  · exact ⟨ho, .inr ⟨hh, hf, ht, breakClass_eq_hit hb, hm⟩⟩

theorem Line.trainEnds_working {ln : Line} {x : Sample} (h : ln.trainEnds x = true) : ln.sup.hook.working = true := by
  obtain ⟨-, ⟨hh, -⟩ | ⟨hh, -⟩⟩ := Line.trainEnds_cases h <;> rw [hh] <;> rfl

/-- A train that reaches the threshold ends at the decoder's step; up to it nothing is staged or opened, and the line
stays in its call (R22, R25, R45, R53). -/
theorem State.decoderOf_of_trainEnds {x : Sample} (h : (s.line L).trainEnds x = true) :
    Edits [.sup] (s.beforeHook L x) (s.hookOf L x).1 ∧ ((s.hookOf L x).1.line L).sup.hook ≠ .onHook ∧
      TrainEnded L (s.line L).dec (s.line L).profile (s.hookOf L x).1 (s.decoderOf L x) := by
  have hb := s.beforeHook_line L x
  have hcond : ((s.line L).conditioned x).filtered = (s.line L).filtered x.i := rfl
  obtain ⟨hopen, hcase⟩ := Line.trainEnds_cases h
  unfold State.decoderOf State.hookOf
  rw [hcond]
  have kept : ∀ {v : State}, Edits [.sup] (s.beforeHook L x) v →
      (v.line L).dec = (s.line L).dec ∧ (v.line L).profile = (s.line L).profile := fun k => by
    rw [(k.line L).dec (by decide), (k.line L).profile, hb]
    exact ⟨rfl, rfl⟩
  obtain ⟨hh, hrun, hm⟩ | ⟨hh, hf, ht, hclass, hm⟩ := hcase
  · have hh' : ((s.beforeHook L x).line L).sup.hook = .active := by rw [hb]; exact hh
    cases hf : (s.line L).filtered x.i
    · rw [State.hookStep_active_noLoop x hh']
      have k : Edits [.sup] (s.beforeHook L x) ((s.beforeHook L x).beginBreak L .openInterval) :=
        Edits.refl.beginBreak (by decide) _
      obtain ⟨hd, hp⟩ := kept k
      refine ⟨k, by rw [State.beginBreak_hook]; nofun, ?_⟩
      rw [← hd, ← hp]
      exact State.decoderStep_of_reached (by rwa [hd]) (by rwa [hd]) (by rwa [hd]) (.inr rfl)
    · rw [State.hookStep_active_loop x hh']
      obtain ⟨hd, hp⟩ := kept .refl
      refine ⟨.refl, by rw [hh']; nofun, ?_⟩
      rw [← hd, ← hp]
      exact State.decoderStep_of_reached (by rwa [hd]) (by rwa [hd]) (by rwa [hd]) (.inl ⟨rfl, hh'⟩)
  · rw [hf, State.hookStep_break_ends x (by rw [hb]; exact hh) (by rw [hb]; exact ht),
      State.endBreak_of_hit (by rw [hb]; exact hclass)]
    have k : Edits [.sup] (s.beforeHook L x) (((s.beforeHook L x).stopTimer L).changeHook L .active) :=
      (Edits.refl.stopTimer (by decide)).changeHook (by decide) _
    obtain ⟨hd, hp⟩ := kept k
    refine ⟨k, by rw [State.changeHook_hook]; nofun, ?_⟩
    rw [← hd, ← hp]
    exact State.decoderStep_hit_of_reached (by rwa [hd]) (by rwa [hd])

/-! ### The collector takes the digit -/

theorem Collection.advance_string (c : Collection) (e : Nat) (o : Bool) : (c.advance e o).string = c.string := by
  unfold Collection.advance
  split <;> rfl

theorem Collection.advance_state (c : Collection) (e : Nat) (o : Bool) : (c.advance e o).state = c.state := by
  unfold Collection.advance
  split <;> rfl

/-- A completion finishes the collection, which keeps its string (R94). -/
theorem State.complete_coll (s : State) (L : LineNo) (r : NumberReason) (i : Option Nat) (v : Bool) :
    ((s.complete L r i v).line L).coll = (s.line L).coll.finished := by
  unfold State.complete
  dsimp only
  rw [((Edits.refl (ps := [.pool])).release (by decide) L |>.line L).coll (by decide), State.line_markTimed, if_pos rfl,
    State.line_setColl_self, State.stage_line]

/-- The appended symbol stands at the end of the string, completed by it or not (R90, R92). -/
theorem State.appendSymbol_string (s : State) (L : LineNo) (d : Digit) :
    ((s.appendSymbol L d).line L).coll.string =
      (s.line L).coll.string ++ [⟨d.symbol, d.source, d.distorted, d.speed⟩] := by
  unfold State.appendSymbol
  dsimp only
  split
  · simp [State.complete_coll, Collection.finished]
  · simp

/-- A timeout keeps the string (R98, R99). -/
theorem State.collTimeouts_string (s : State) (L : LineNo) (o d : Bool) :
    ((s.collTimeouts L o d).1.line L).coll.string = (s.line L).coll.string := by
  unfold State.collTimeouts
  dsimp only
  split
  · rw [(s.noDigits_line L).1]
    rfl
  · split
    · rw [State.complete_coll]
      rfl
    · rfl

theorem State.collectorStep_digit_string {e : Nat} {o : Bool} {d : Digit}
    (hc : (s.line L).coll.state = .collecting) :
    ((s.collectorStep L e o (some d)).1.line L).coll.string =
      (s.line L).coll.string ++ [⟨d.symbol, d.source, d.distorted, d.speed⟩] := by
  simp [State.collectorStep, State.collTimeouts_string, State.takeSymbol, Collection.advance_state, hc,
    State.appendSymbol_string, Collection.advance_string]

/-- In DONE the digit is staged and nothing else comes of it (R100). -/
theorem State.collectorStep_digit_late {e : Nat} {o : Bool} {d : Digit} (hc : (s.line L).coll.state = .done) :
    s.collectorStep L e o (some d) =
      ((s.setColl L ((s.line L).coll.advance e o)).stage (some L) (.lateDigit (d.report false d.receiver)), {}) := by
  simp [State.collectorStep, State.collTimeouts, State.takeSymbol, Collection.advance_state, hc]

/-! ### The sample -/

theorem State.baselineStep_of_not_onHook (h : (s.line L).sup.hook ≠ .onHook) (c : Conditioned) (i : Int) :
    s.baselineStep L c i = (s, false) := by
  simp [State.baselineStep, Line.qualifies, h]

/-- With no train open a park touches the supervision record and the pool alone (R27). -/
theorem Edits.parkIf_of_closed (h : (s.line L).dec.trainOpen = false) (b : Bool) :
    Edits [.sup, .pool, .stage] s (s.parkIf L b) := by
  have hd : s.dropTrain L = s := if_neg (by rw [h]; exact Bool.false_ne_true)
  unfold State.parkIf State.park
  rw [hd]
  split
  · split
    · exact ((Edits.refl.changeHook (by decide) _).release (by decide) L).stage (by decide) ..
    · exact .refl
  · exact .refl

/-- The state that the Digit Collector leaves at a sample of a line that is not ON_HOOK. -/
def State.collectorOf (s : State) (L : LineNo) (x : Sample) : State :=
  ((s.decoderOf L x).1.collectorStep L x.elapsed.val (s.hookOf L x).2.opened (s.decoderOf L x).2.digit).1

theorem Edits.collectorOf (s : State) (L : LineNo) (x : Sample) :
    Edits [.coll, .pool, .stage] (s.decoderOf L x).1 (s.collectorOf L x) :=
  Edits.refl.collectorStep (by decide) (by decide) (by decide) ..

theorem Hook.discards_of_working {h : Hook} (hw : h.working = true) : h.discards = false := by
  cases h
  case notEquipped => cases hw
  case testing => cases hw
  all_goals rfl

/-- The Fault Monitor asks a line in a working hook state for no GUARD at a sample that is not high (R32, R33, R107). -/
theorem Edits.takeSample_of_low {x : Sample} (hw : (s.line L).sup.hook.working = true) (hx : sampleHigh x = false) :
    Edits [.fault, .stage] (s.atFaults L x) (s.takeSample L x).1 := by
  obtain ⟨k, b, e, -⟩ := State.takeSample_faults x (Hook.discards_of_working hw)
  have kf : Edits [.fault, .stage] (s.atFaults L x) _ :=
    Edits.refl.faultConditions (L := L) (by decide) (by decide) x ((s.line L).conditioned x) k b
  have hguard : (((s.atFaults L x).faultConditions L x ((s.line L).conditioned x) k b).1.line L).sup.hook ≠ .guard := by
    rw [(kf.line L).hook (by decide)]
    intro hg
    have hw' := (s.atFaults_hook L x).2 hw
    rw [hg] at hw'
    cases hw'
  rw [State.guardRequest_of_not_guard (State.faultConditions_guard_of_low hx _ _ _) hguard] at e
  rwa [e]

/-- Between the collector and the Fault Monitor a train that has ended is no train for a park to drop (R58). -/
theorem Edits.atFaults_of_trainEnds {x : Sample} (h : (s.line L).trainEnds x = true) :
    Edits [.sup, .pool, .stage] (s.collectorOf L x) (s.atFaults L x) := by
  obtain ⟨-, hhook, hended⟩ := State.decoderOf_of_trainEnds h
  have hclosed : ((s.collectorOf L x).line L).dec.trainOpen = false := by
    rw [((Edits.collectorOf s L x).line L).dec (by decide), hended.dec]
    rfl
  have k := (Edits.parkIf_of_closed hclosed
    ((s.decoderOf L x).1.collectorStep L x.elapsed.val (s.hookOf L x).2.opened (s.decoderOf L x).2.digit).2.park).poolStep
    (L := L) (by decide) (by decide) x.elapsed.val (!s.served L)
  unfold State.atFaults State.beforeFaults
  rwa [State.baselineStep_of_not_onHook hhook]

theorem State.takeSample_ended {x : Sample} (h : (s.line L).trainEnds x = true) :
    (s.takeSample L x).2.dec.ended = true := by
  obtain ⟨-, hhook, hended⟩ := State.decoderOf_of_trainEnds h
  rw [State.takeSample_of_taken x (Hook.discards_of_working (Line.trainEnds_working h)), State.afterHook,
    State.baselineStep_of_not_onHook hhook]
  exact hended.ended

theorem exec_digitEnd_of_reported {x : Sample} (ha : s.sampleArrives L x = true)
    (h : (s.takeSample L x).2.dec.ended = true) :
    exec (.digitEnd L x) s = .next (s.takeSample L x).1.settle := by
  change s.sampleRow L x (fun r => r.dec.ended) = _
  simp [State.sampleRow, ha, h]

/-- The first record staged by the blocks of a sample is the first one staged after `s`. -/
theorem stagedFirst_of_beforeHook {ps : List EditPart} {x : Sample} {l : Option LineNo} {b : RecordBody}
    (k : Edits ps (s.beforeHook L x) u) (hn : .stage ∉ ps) (h : Stages (u.stage l b) t) :
    s.stagedFirst t s.time l b := by
  have hj : u.journal = _ := k.journal hn
  have htime : u.time = s.time := k.time
  rw [← htime]
  exact stagedFirst_of_stage (by rw [hj]; rfl) (by rw [hj]; rfl) h

/-- Settles O21: the decoder ends the train, the collector takes its digit, and the later blocks of the sample leave both
alone. -/
theorem trainEndHandsOnTheDigit : Obligations.TrainEndHandsOnTheDigit := by
  intro s L x ha h hx
  obtain ⟨ku, -, hended⟩ := State.decoderOf_of_trainEnds h
  have klast : Edits [.sup, .pool, .fault, .stage] (s.collectorOf L x) (s.takeSample L x).1 :=
    ((Edits.atFaults_of_trainEnds h).mono (by decide)).trans
      ((Edits.takeSample_of_low (Line.trainEnds_working h) hx).mono (by decide))
  have kcoll := Edits.collectorOf s L x
  have later : Stages (s.collectorOf L x) (s.takeSample L x).1.settle := klast.stages.trans (.settle _)
  have hdec : ((s.takeSample L x).1.line L).dec = (s.line L).dec.emptied := by
    rw [(klast.line L).dec (by decide), (kcoll.line L).dec (by decide), hended.dec]
  have hbefore : ∀ {v : State}, Edits [.dec] (s.hookOf L x).1 v → Edits [.sup, .dec] (s.beforeHook L x) v :=
    fun k => (ku.mono (by decide)).trans (k.mono (by decide))
  have hcoll : ∀ {v : State}, Edits [.dec] (s.hookOf L x).1 v → (v.line L).coll = (s.line L).coll := fun k => by
    rw [((hbefore k).line L).coll (by decide), State.beforeHook_line]
  refine ⟨_, exec_digitEnd_of_reported ha (State.takeSample_ended h), ?_⟩
  rw [State.settle_line, hdec, (klast.line L).coll (by decide)]
  refine ⟨rfl, rfl, rfl, rfl, fun hover => ?_, fun hover hc => ?_, fun hover hc => ?_⟩
  · obtain ⟨w, kw, k⟩ := hended.error hover
    have hfirst := stagedFirst_of_beforeHook (hbefore kw) (by decide) ((k.stages.trans kcoll.stages).trans later)
    rwa [PulseDecoder.report, hover] at hfirst
  · obtain ⟨k, hdigit⟩ := hended.digit hover
    rw [State.collectorOf, hdigit, State.collectorStep_digit_string (by rw [hcoll k]; exact hc), hcoll k]
    rfl
  · obtain ⟨k, hdigit⟩ := hended.digit hover
    rw [State.collectorOf, hdigit, State.collectorStep_digit_late (by rw [hcoll k]; exact hc)] at later ⊢
    have kc : Edits [.sup, .dec, .coll] (s.beforeHook L x) (s.decoderOf L x).1 := (hbefore k).mono (by decide)
    refine ⟨?_, stagedFirst_of_beforeHook (kc.setColl (by decide) _) (by decide) later⟩
    rw [State.stage_line, State.line_setColl_self, Collection.advance_string, hcoll k]

end Sys2Proof.Machine

/-! ## The pool: exclusive, never idle while a line waits, and sound after reset (R66 to R70, R74, R158, R172, R183) -/

namespace Sys2Proof.Machine

variable {s t : State} {L : LineNo}

/-- Settles O6: the exclusivity is maintained by each operation, hence by every step. -/
theorem poolExclusivityKept : Obligations.PoolExclusivityKept := fun _ _ h e => poolSoundMaintained.step h e

@[simp] theorem State.markTimed_receiver (s : State) (L : LineNo) (r : RxNo) :
    (s.markTimed L).receiver r = s.receiver r := rfl

/-! ### No receiver stays FREE while a line waits (R68) -/

/-- Receivers that become FREE by a change of the pool only do so with an empty queue. -/
theorem State.noIdleReceiver_of_busier (h : s.noIdleReceiver) (hq : t.pool.queue ≠ [] → s.pool.queue ≠ [])
    (hr : t.pool.queue ≠ [] → ∀ r, (t.receiver r).state = .free → (s.receiver r).state = .free) : t.noIdleReceiver :=
  fun ht r hf => h (hq ht) r (hr ht r hf)

theorem State.noIdleReceiver_of_pool (h : s.noIdleReceiver) (hp : t.pool = s.pool) : t.noIdleReceiver :=
  State.noIdleReceiver_of_busier h (by rw [hp]; exact id) fun _ r => by rw [State.receiver_of_pool hp]; exact id

theorem State.setReceiver_noIdleReceiver (r : RxNo) (x : Receiver) (hx : x.state = .free → (s.receiver r).state = .free)
    (h : s.noIdleReceiver) : (s.setReceiver r x).noIdleReceiver := by
  refine State.noIdleReceiver_of_busier h id fun _ q hq => ?_
  rw [State.receiver_setReceiver] at hq
  split at hq
  · rename_i hqr
    rw [hqr]
    exact hx hq
  · exact hq

/-- A receiver with no line to hand it to is the one that may be FREE: the hand-over takes it to the head of the queue. -/
theorem State.handOver_noIdleReceiver (r : RxNo)
    (h : s.pool.queue ≠ [] → ∀ q, q ≠ r → (s.receiver q).state ≠ .free) : (s.handOver r).noIdleReceiver := by
  unfold State.handOver
  split
  · rename_i hq
    exact fun hne => absurd hq hne
  · rename_i e q hq
    intro _ k hk
    by_cases hkr : k = r
    · rw [hkr, State.attach_receiver_self] at hk
      cases hk
    · rw [State.attach_receiver_other hkr] at hk
      exact h (by rw [hq]; exact List.cons_ne_nil e q) k hkr hk

/-- A receiver that becomes FREE and is handed over at once. -/
theorem State.setReceiver_handOver_noIdleReceiver (r : RxNo) (x : Receiver) (h : s.noIdleReceiver) :
    ((s.setReceiver r x).handOver r).noIdleReceiver :=
  State.handOver_noIdleReceiver r fun hne q hq => by
    rw [State.receiver_setReceiver, if_neg hq]
    exact h hne q

theorem State.freeReceiver_eq_none_iff : s.freeReceiver = none ↔ ∀ r, (s.receiver r).state ≠ .free := by
  simp [State.freeReceiver, mem_allRx]

/-- A line joins the queue only while no receiver is FREE (R67). -/
theorem State.request_noIdleReceiver (L : LineNo) (h : s.noIdleReceiver) : (s.request L).noIdleReceiver := by
  unfold State.request
  split
  · exact h
  · split
    · exact State.setReceiver_noIdleReceiver _ _ nofun h
    · rename_i hf
      exact fun _ => State.freeReceiver_eq_none_iff.mp hf

theorem State.release_noIdleReceiver (L : LineNo) (h : s.noIdleReceiver) : (s.release L).noIdleReceiver := by
  unfold State.release
  split
  · rename_i r _
    unfold State.detach
    dsimp only
    split
    · rename_i hret
      exact State.setReceiver_noIdleReceiver r _ (fun hd => by simp [Receiver.detached, hret] at hd) h
    · exact State.handOver_noIdleReceiver r fun hne q hq => by
        rw [State.markTimed_receiver, State.receiver_setReceiver, if_neg hq]
        exact h hne q
  · split
    · refine State.noIdleReceiver_of_busier h (fun hne he => hne ?_) fun _ _ => id
      show List.filter _ s.pool.queue = []
      rw [he, List.filter_nil]
    · exact h

theorem State.recount_noIdleReceiver (n : Nat) (r : RxNo) (h : s.noIdleReceiver) :
    (State.recount n s r).noIdleReceiver := by
  unfold State.recount
  dsimp only
  split
  · split
    · exact State.setReceiver_noIdleReceiver r _ nofun h
    · exact State.setReceiver_noIdleReceiver r _ id h
    · exact h
  · split
    · exact State.setReceiver_handOver_noIdleReceiver r _ h
    · exact State.setReceiver_noIdleReceiver r _ id h
    · exact h

theorem Receiver.lostHighway_state (rx : Receiver) : rx.lostHighway.state = rx.state := by
  unfold Receiver.lostHighway
  split <;> rfl

/-- That no receiver stays FREE while a line waits is maintained by what the shared operations are built of. -/
theorem noIdleReceiverMaintained : Maintained State.noIdleReceiver where
  rest h _ ep _ := State.noIdleReceiver_of_pool h ep
  setLine _ _ h _ := h
  setReceiver r x h hst _ _ := State.setReceiver_noIdleReceiver r x (by rw [hst]; exact id) h
  setQueue q h hq := State.noIdleReceiver_of_busier h (fun hne he => hne (by
    rw [he] at hq
    exact List.map_eq_nil_iff.mp hq)) fun _ _ => id
  request := State.request_noIdleReceiver
  release := State.release_noIdleReceiver
  changeEnabled n h := State.foldl_keeps (fun r hu => State.recount_noIdleReceiver n r hu) allRx h
  lostHighway {s} h := State.noIdleReceiver_of_busier h id fun _ r hf => by
    rwa [State.receiver, State.mapReceivers, mapEach_getElem, Receiver.lostHighway_state] at hf
  beginEntries h := h
  enterRunning _ := nofun
  enterStopped _ := nofun
  reset := nofun

/-- Settles O7: each operation hands a receiver that becomes FREE to the head of the queue, hence so does every step. -/
theorem noReceiverFreeWhileALineWaits : Obligations.NoReceiverFreeWhileALineWaits := fun _ _ h e =>
  noIdleReceiverMaintained.step h e

/-- Settles O8: the three invariants by their base case, the port FREE, and no sequence in progress. -/
theorem resetStateIsSound : Obligations.ResetStateIsSound :=
  ⟨soundMaintained.reset, poolSoundMaintained.reset, noIdleReceiverMaintained.reset, fun _ => rfl, nofun⟩

/-! ### The digit states (R79) -/

/-- Settles O37: each row of the table by the definition of the step, with two keys that differ. -/
theorem digitStatesByTheirTable : Obligations.DigitStatesByTheirTable := fun _ _ hab =>
  ⟨rfl, rfl, if_pos rfl, if_neg hab, rfl, if_pos rfl, rfl, if_neg hab, rfl, if_pos rfl, if_neg hab⟩

end Sys2Proof.Machine

/-! ## The block decision (R78) -/

namespace Sys2Proof.Machine

/-! ### The largest of some numbers -/

theorem foldl_max_eq_max? {xs : List Nat} (h : xs ≠ []) : xs.max? = some (xs.foldl max 0) := by
  cases xs with
  | nil => exact absurd rfl h
  | cons x xs => rw [List.max?_cons', List.foldl_cons, Nat.zero_max]

/-- `largest` answers a place, the value that it holds, and no smaller value than any. -/
theorem largest_spec {xs : List Nat} (h : xs ≠ []) :
    (largest xs).1 < xs.length ∧ xs.getD (largest xs).1 0 = (largest xs).2 ∧
      ∀ k, k < xs.length → xs.getD k 0 ≤ (largest xs).2 := by
  obtain ⟨hm, hle⟩ := List.max?_eq_some_iff.mp (foldl_max_eq_max? h)
  have hlt : (largest xs).1 < xs.length := List.findIdx_lt_length_of_exists ⟨_, hm, decide_eq_true rfl⟩
  refine ⟨hlt, ?_, fun k hk => ?_⟩
  · rw [List.getD_eq_getElem _ _ hlt]
    exact of_decide_eq_true (List.findIdx_getElem (w := hlt))
  · rw [List.getD_eq_getElem _ _ hk]
    exact hle _ (List.getElem_mem hk)

/-- A number that no other one reaches is the largest, with its place. -/
theorem largest_eq {xs : List Nat} {i : Nat} (hi : i < xs.length)
    (h : ∀ k, k < xs.length → k ≠ i → xs.getD k 0 < xs.getD i 0) : largest xs = (i, xs.getD i 0) := by
  obtain ⟨hlt, hval, hle⟩ := largest_spec (List.ne_nil_of_length_pos (Nat.zero_lt_of_lt hi))
  have hplace : (largest xs).1 = i := by
    by_contra hne
    have := h _ hlt hne
    have := hle i hi
    omega
  rw [← hplace, hval]

theorem othersAtMost_iff (xs : List Nat) (i b : Nat) :
    othersAtMost xs i b = true ↔ ∀ k, k < xs.length → k ≠ i → xs.getD k 0 ≤ b := by
  simp only [othersAtMost, List.all_eq_true, decide_eq_true_eq, List.mem_eraseIdx_iff_getElem]
  constructor
  · intro h k hk hki
    rw [List.getD_eq_getElem _ _ hk]
    exact h _ ⟨k, hk, hki, rfl⟩
  · rintro h _ ⟨k, hk, hki, rfl⟩
    rw [← List.getD_eq_getElem _ 0 hk]
    exact h k hk hki

/-! ### The symbol -/

theorem keySymbol_eq (i j : Fin 4) : keySymbol i.val j.val = some ((Config.keypad.getD i.val []).getD j.val 0) := by
  revert i j
  decide

/-- Every test of a block but the place of its key. -/
def blockPasses (floor : Nat) (rows columns : List Nat) (power i j : Nat) : Prop :=
  floor ≤ rows.getD i 0 ∧ floor ≤ columns.getD j 0 ∧ columns.getD j 0 ≤ 4 * rows.getD i 0 ∧
    rows.getD i 0 ≤ 8 * columns.getD j 0 ∧ (∀ k, k < rows.length → k ≠ i → rows.getD k 0 ≤ rows.getD i 0 / 8) ∧
    (∀ k, k < columns.length → k ≠ j → columns.getD k 0 ≤ columns.getD j 0 / 8) ∧
    48 * power ≤ rows.getD i 0 + columns.getD j 0

/-- The decision by the places of the largest row and column. -/
theorem decideBlock_eq_some_iff {floor power : Nat} {rows columns : List Nat} {x : Symbol} (hr : rows ≠ [])
    (hc : columns ≠ []) :
    decideBlock floor rows columns power = some x ↔
      blockPasses floor rows columns power (largest rows).1 (largest columns).1 ∧
        keySymbol (largest rows).1 (largest columns).1 = some x := by
  unfold decideBlock blockPasses
  simp only [othersAtMost_iff, ← (largest_spec hr).2.1, ← (largest_spec hc).2.1]
  split
  · rename_i h
    exact ⟨fun hk => ⟨h, hk⟩, fun hk => hk.2⟩
  · rename_i h
    exact ⟨nofun, fun hk => absurd hk.1 h⟩

/-- Settles O36: the tests admit one row and one column, which are the largest. -/
theorem blockDecisionGivesTheKey : Obligations.BlockDecisionGivesTheKey := by
  intro floor power rows columns x hfloor hrows hcolumns
  have hr : rows ≠ [] := List.ne_nil_of_length_pos (by omega)
  have hc : columns ≠ [] := List.ne_nil_of_length_pos (by omega)
  rw [decideBlock_eq_some_iff hr hc]
  constructor
  · rintro ⟨⟨hfr, hfc, h4, h8, hor, hoc, hp⟩, hk⟩
    obtain ⟨hri, hrv, hrle⟩ := largest_spec hr
    obtain ⟨hcj, hcv, hcle⟩ := largest_spec hc
    rw [hrows] at hri hrle hor
    rw [hcolumns] at hcj hcle hoc
    refine ⟨⟨_, hri⟩, ⟨_, hcj⟩, fun k => ?_, fun k => ?_, hfr, hfc, h4, h8, fun k hki => ?_, fun k hkj => ?_, hp, ?_⟩
    · exact Nat.le_trans (hrle k.val k.isLt) (Nat.le_of_eq hrv.symm)
    · exact Nat.le_trans (hcle k.val k.isLt) (Nat.le_of_eq hcv.symm)
    · exact hor k.val k.isLt fun h => hki (Fin.ext h)
    · exact hoc k.val k.isLt fun h => hkj (Fin.ext h)
    · exact Option.some.inj (hk.symm.trans (keySymbol_eq ⟨_, hri⟩ ⟨_, hcj⟩))
  · rintro ⟨i, j, -, -, hfr, hfc, h4, h8, hor, hoc, hp, rfl⟩
    have hor' : ∀ k, k < rows.length → k ≠ i.val → rows.getD k 0 ≤ rows.getD i.val 0 / 8 := fun k hk hki =>
      hor ⟨k, by omega⟩ fun h => hki (congrArg Fin.val h)
    have hoc' : ∀ k, k < columns.length → k ≠ j.val → columns.getD k 0 ≤ columns.getD j.val 0 / 8 := fun k hk hkj =>
      hoc ⟨k, by omega⟩ fun h => hkj (congrArg Fin.val h)
    have hlr : largest rows = (i.val, rows.getD i.val 0) := largest_eq (by omega) fun k hk hki => by
      have := hor' k hk hki
      omega
    have hlc : largest columns = (j.val, columns.getD j.val 0) := largest_eq (by omega) fun k hk hkj => by
      have := hoc' k hk hkj
      omega
    rw [hlr, hlc]
    exact ⟨⟨hfr, hfc, h4, h8, hor', hoc', hp⟩, keySymbol_eq i j⟩

end Sys2Proof.Machine

/-! ## The highway: its periods, its loss and its restoration (R61, R63 to R65, R75) -/

namespace Sys2Proof.Machine

variable {s t u : State}

/-! ### The closing of a period (R61, R63, R64) -/

theorem State.highwayInstant_of_not_live (h : s.run.control.live = false) : s.highwayInstant = (s, false) := by
  simp [State.highwayInstant, h]

theorem State.highwayInstant_of_kept (hl : s.run.control.live = true) (h : s.highway.losing = false) :
    s.highwayInstant = (s.setHighway (s.highway.closed s.time), false) := by
  simp [State.highwayInstant, hl, h]

/-- The highway instant that loses the highway, up to its record. -/
def State.highwayDropped (s : State) : State :=
  (s.setHighway (s.highway.closed s.time)).mapReceivers Receiver.lostHighway

theorem State.highwayInstant_of_losing (hl : s.run.control.live = true) (h : s.highway.losing = true) :
    s.highwayInstant = (s.highwayDropped.stage none (.highwayLost s.attachedCount), true) := by
  simp [State.highwayInstant, hl, h, State.highwayDropped]

theorem Highway.losing_iff (h : Highway) : h.losing = true ↔ h.good = true ∧ h.credit = false ∧ 1 ≤ h.missing := by
  simp [Highway.losing, Config.highwayMissingLimit, and_assoc]

/-- In the live states the instant closes the highway's period. -/
theorem State.highwayInstant_highway (hl : s.run.control.live = true) :
    s.highwayInstant.1.highway = s.highway.closed s.time := by
  cases h : s.highway.losing
  · rw [State.highwayInstant_of_kept hl h, State.setHighway_highway]
  · rw [State.highwayInstant_of_losing hl h, (Within.stage ..).highway]
    rfl

/-- What a highway instant leaves alone. -/
theorem State.highwayInstant_frame (s : State) :
    s.highwayInstant.1.lines = s.lines ∧ s.highwayInstant.1.pool.queue = s.pool.queue ∧
      s.highwayInstant.1.time = s.time := by
  cases hl : s.run.control.live
  · rw [State.highwayInstant_of_not_live hl]
    exact ⟨rfl, rfl, rfl⟩
  · cases h : s.highway.losing
    · rw [State.highwayInstant_of_kept hl h]
      exact ⟨rfl, rfl, rfl⟩
    · rw [State.highwayInstant_of_losing hl h, State.stage_lines, State.stage_pool, (Within.stage ..).time]
      exact ⟨rfl, rfl, rfl⟩

/-- The record of a highway whose period closes, by its state, its credit and its missing count. -/
theorem Highway.closed_eq (h : Highway) (now : Word) :
    h.closed now =
      if h.good then
        if h.credit then { h with missing := 0, credit := false }
        else if h.missing + 1 < 2 then { h with missing := h.missing + 1, credit := false }
        else { good := false, missing := 0, goodRun := 0, credit := false, reportRestore := true, lostSince := now }
      else if h.credit then { h with credit := false }
      else { h with goodRun := 0, credit := false } := by
  unfold Highway.closed
  cases hg : h.good
  · cases hc : h.credit <;> simp [Highway.losing, hg]
  · cases hc : h.credit
    · by_cases hm : h.missing + 1 < 2
      · simp [Highway.losing, hg, hc, hm, Nat.not_le.mpr hm, Config.highwayMissingLimit]
      · simp [Highway.losing, hg, hc, hm, Nat.not_lt.mp hm, Config.highwayMissingLimit]
    · simp [Highway.losing, hg, hc]

/-- Settles O30: the period closes where the highway runs, with the cases of its record. -/
theorem highwayInstantClosesThePeriod : Obligations.HighwayInstantClosesThePeriod := by
  intro s
  obtain ⟨hlines, hqueue, htime⟩ := s.highwayInstant_frame
  refine ⟨s.highwayInstant.1.settle, rfl, ?_, (State.settle_lines _).trans hlines,
    (congrArg Pool.queue (State.settle_pool _)).trans hqueue, (State.settle_time _).trans htime⟩
  rw [State.settle_highway]
  split
  · rename_i h
    rw [State.highwayInstant_highway (s.run.control.live_iff.mpr h), Highway.closed_eq]
  · rename_i h
    rw [State.highwayInstant_of_not_live (Bool.eq_false_iff.mpr fun hl => h (s.run.control.live_iff.mp hl))]

/-! ### The loss (R63, R65, R75) -/

theorem State.receiver_mapReceivers (s : State) (f : Receiver → Receiver) (r : RxNo) :
    (s.mapReceivers f).receiver r = f (s.receiver r) := mapEach_getElem ..

theorem State.attachedCount_eq (s : State) :
    s.attachedCount = (List.finRange 8).countP fun r => decide ((s.receiver r).state = .attached) :=
  (List.countP_eq_length_filter (p := fun r => decide ((s.receiver r).state = .attached)) (l := allRx)).symm

/-- Settles O31: the instant closes the period with the loss, discards the blocks, and stages the record. -/
theorem highwayLossDiscardsPartialBlocks : Obligations.HighwayLossDiscardsPartialBlocks := by
  intro s hl hg hc hm
  have hlose : s.highway.losing = true := s.highway.losing_iff.mpr ⟨hg, hc, hm⟩
  have e := State.highwayInstant_of_losing hl hlose
  have hh : s.highwayInstant.1.settle.highway =
      { good := false, missing := 0, goodRun := 0, credit := false, reportRestore := true, lostSince := s.time } := by
    rw [State.settle_highway, State.highwayInstant_highway hl]
    unfold Highway.closed
    rw [if_pos hlose]
  have hexec : exec .highwayLost s = .next s.highwayInstant.1.settle := by
    change Host.Outcome.next (if s.highwayInstant.2 then _ else _) = _
    rw [e]
    rfl
  refine ⟨_, hexec, by rw [hh], by rw [hh], by rw [hh], by rw [hh], by rw [hh], fun r => ?_, ?_, ?_⟩
  · rw [State.settle_receiver, e, State.stage_receiver, State.highwayDropped, State.receiver_mapReceivers]
    rfl
  · rw [← State.attachedCount_eq, e]
    exact stagedFirst_of_stage (u := s.highwayDropped) rfl rfl (.settle _)
  · exact (State.settle_lines _).trans s.highwayInstant_frame.1

/-! ### The restoration (R64, R65) -/

theorem State.highwayFrame_of_not_live (h : s.run.control.live = false) (slots : List (BitVec 16)) :
    s.highwayFrame slots = (s, {}) := by
  simp [State.highwayFrame, h]

theorem State.highwayFrame_of_incomplete {slots : List (BitVec 16)} (hl : s.run.control.live = true)
    (hn : slots.length ≠ 128) : s.highwayFrame slots = (s.setHighway s.highway.broken, {}) := by
  simp [State.highwayFrame, hl, hn]

theorem State.highwayFrame_of_lost {slots : List (BitVec 16)} (hl : s.run.control.live = true)
    (hn : slots.length = 128) (hg : s.highway.good = false) : s.highwayFrame slots = s.lostFrame := by
  simp [State.highwayFrame, hl, hn, hg]

/-- A complete frame of a LOST highway that does not complete the run (R64). -/
theorem State.lostFrame_of_short (h : s.highway.goodRun < 7) :
    s.lostFrame = (s.setHighway { s.highway with goodRun := s.highway.goodRun + 1, credit := true }, {}) := by
  simp only [State.lostFrame, Config.highwayRunLimit]
  rw [if_neg (by omega)]

/-- The record of a highway that its eighth frame restores. -/
def Highway.restored (h : Highway) : Highway :=
  { h with good := true, missing := 0, goodRun := 0, credit := true, reportRestore := false }

/-- The eighth complete frame of a LOST highway (R64). -/
theorem State.lostFrame_of_run (h : 7 ≤ s.highway.goodRun) :
    s.lostFrame =
      (if s.highway.reportRestore then
        (s.setHighway s.highway.restored).stage none (.highwayRestored s.highway.lostSince)
      else s.setHighway s.highway.restored, { restored := true }) := by
  simp only [State.lostFrame, Config.highwayRunLimit]
  rw [if_pos (by omega)]
  rfl

/-- Settles O33: the frame restores the highway, and its record is staged if it is to be reported. -/
theorem highwayRestoredByEighthFrame : Obligations.HighwayRestoredByEighthFrame := by
  intro s slots hl hn hg hr
  have e := (State.highwayFrame_of_lost hl hn hg).trans (State.lostFrame_of_run hr)
  have hexec : exec (.highwayRestored slots) s = .next (s.highwayFrame slots).1.settle := by
    change Host.Outcome.next (if (s.highwayFrame slots).2.restored then _ else _) = _
    rw [e]
    rfl
  refine ⟨_, hexec, ?_⟩
  rw [State.settle_highway, State.settle_pool, State.settle_lines, State.settle_queue, e]
  cases hrep : s.highway.reportRestore
  · exact ⟨rfl, rfl, rfl, nofun, fun _ => rfl⟩
  · refine ⟨(Within.stage ..).highway, State.stage_pool .., State.stage_lines .., fun _ => ?_, nofun⟩
    exact stagedFirst_of_stage (u := s.setHighway s.highway.restored) rfl rfl (.settle _)

end Sys2Proof.Machine

/-! ## A complete frame at the receivers: the samples that it carries (R61, R64, R75, R76) -/

namespace Sys2Proof.Machine

variable {s t u v : State} {slots : List (BitVec 16)}

/-! ### A sample of every receiver that is attached (R75) -/

/-- A receiver with the sample that a frame carries for its line, if it is ATTACHED to one. -/
def Receiver.fed (slots : List (BitVec 16)) (rx : Receiver) : Receiver :=
  match rx.state, rx.line with
  | .attached, some L => rx.sampled (slotSample slots L)
  | _, _ => rx

theorem Receiver.fed_of_serves {rx : Receiver} {L : LineNo} (h : rx.serves L) :
    rx.fed slots = rx.sampled (slotSample slots L) := by
  simp [Receiver.fed, h.1, h.2]

theorem Receiver.fed_of_not_serves {rx : Receiver} (h : ∀ L, ¬ rx.serves L) : rx.fed slots = rx := by
  unfold Receiver.fed
  split
  · rename_i L hs hl
    exact absurd ⟨hs, hl⟩ (h L)
  · rfl

/-- A receiver that does not fill its block at its next sample. -/
def Receiver.short (rx : Receiver) : Prop := rx.state = .attached → rx.blockCount + 1 < 160

theorem State.setReceiver_receiver (s : State) (r : RxNo) : s.setReceiver r (s.receiver r) = s := by
  unfold State.setReceiver State.receiver
  rw [Vector.set_getElem_self]

/-- A receiver that does not fill its block only takes its sample. -/
theorem State.receiverFrame_of_short {a : State × List RxNo} {r : RxNo} (h : (a.1.receiver r).short) :
    State.receiverFrame slots a r = (a.1.setReceiver r ((a.1.receiver r).fed slots), a.2) := by
  unfold State.receiverFrame
  dsimp only
  split
  · rename_i L hs hl
    rw [Receiver.fed_of_serves ⟨hs, hl⟩]
    exact if_neg (Nat.not_le.mpr (h hs))
  · rename_i hn
    rw [Receiver.fed_of_not_serves fun L hL => hn L hL.1 hL.2, State.setReceiver_receiver]

/-- `u` comes from `s` by the samples that a frame carries for the receivers `rs`. -/
structure Feeds (slots : List (BitVec 16)) (rs : List RxNo) (s u : State) : Prop where
  rest : u = { s with pool := { s.pool with rx := u.pool.rx } }
  receiver : ∀ q, u.receiver q = if q ∈ rs then (s.receiver q).fed slots else s.receiver q

/-- The receivers that do not fill their blocks take their samples, each once. -/
theorem State.receiversFeed {rs : List RxNo} (hn : rs.Nodup) {a : State × List RxNo}
    (h : ∀ q ∈ rs, (a.1.receiver q).short) :
    ∃ u, rs.foldl (State.receiverFrame slots) a = (u, a.2) ∧ Feeds slots rs a.1 u := by
  induction rs generalizing a with
  | nil => exact ⟨a.1, rfl, rfl, fun q => (if_neg (List.not_mem_nil)).symm⟩
  | cons r rs ih =>
    obtain ⟨hr, hn⟩ := List.nodup_cons.mp hn
    have e := State.receiverFrame_of_short (slots := slots) (h r List.mem_cons_self)
    obtain ⟨u, hu, k⟩ := ih hn (a := State.receiverFrame slots a r) fun q hq => by
      rw [e, State.receiver_setReceiver, if_neg (ne_of_mem_of_not_mem hq hr)]
      exact h q (List.mem_cons_of_mem r hq)
    rw [e] at hu k
    refine ⟨u, by rw [List.foldl_cons, e, hu], k.rest, fun q => ?_⟩
    rw [k.receiver q, State.receiver_setReceiver]
    by_cases hqr : q = r
    · subst hqr
      simp [hr]
    · simp [hqr]

/-- A complete frame of a GOOD highway goes to the receivers (R61, R75). -/
theorem State.highwayFrame_of_good (hl : s.run.control.live = true) (hn : slots.length = 128)
    (hg : s.highway.good = true) :
    s.highwayFrame slots =
      (((s.setHighway { s.highway with credit := true }).receiversTake slots).1,
        { ended := ((s.setHighway { s.highway with credit := true }).receiversTake slots).2 }) := by
  simp [State.highwayFrame, hl, hn, hg]

theorem saturate32_eq (x : Int) : saturate32 x = max (-2147483648) (min 2147483647 x) := by
  unfold saturate32 clampInt
  split
  · omega
  · split <;> omega

/-- A sample of a block, filter by filter (R75, R76). -/
theorem Receiver.sampled_eq (rx : Receiver) (x : Int) :
    rx.sampled x = { rx with
      blockCount := rx.blockCount + 1
      power := rx.power + x.natAbs ^ 2
      filters := List.zipWith
        (fun c f => ⟨max (-2147483648) (min 2147483647 (x + c * f.s1 / 2 ^ 14 - f.s2)), f.s1⟩)
        [27980, 26956, 25701, 24219, 19073, 16325, 13085, 9315] rx.filters } := by
  simp only [← saturate32_eq]
  rfl

theorem allRx_nodup : allRx.Nodup := by decide

/-- Settles O32: no block is filled, so each receiver takes its sample; and the frames that reach no receiver. -/
theorem highwayFrameFeedsTheReceivers : Obligations.HighwayFrameFeedsTheReceivers := by
  refine ⟨fun s slots r hl hn hg hs => ?_, fun s slots hl hn hg hr => ?_, fun s slots hl hn => ?_, fun s slots hl => ?_⟩
  · obtain ⟨u, hu, k⟩ := State.receiversFeed (slots := slots) allRx_nodup
      (a := (s.setHighway { s.highway with credit := true }, [])) fun q _ => hs q
    have e : (s.highwayFrame slots).1 = u := by
      rw [State.highwayFrame_of_good hl hn hg, State.receiversTake, hu]
    refine ⟨_, rfl, ?_⟩
    rw [State.settle_highway, State.settle_lines, State.settle_queue, State.settle_receiver, e, k.receiver,
      if_pos (mem_allRx r)]
    refine ⟨by rw [k.rest]; rfl, by rw [k.rest]; rfl, by rw [k.rest]; rfl, ?_⟩
    rw [State.setHighway_receiver]
    split
    · rename_i L hst hln
      rw [Receiver.fed_of_serves ⟨hst, hln⟩, Receiver.sampled_eq]
      rfl
    · rename_i hne
      exact Receiver.fed_of_not_serves fun L hL => hne L hL.1 hL.2
  · refine ⟨_, rfl, ?_⟩
    rw [State.settle_highway, State.settle_pool, State.settle_lines, State.highwayFrame_of_lost hl hn hg,
      State.lostFrame_of_short hr]
    exact ⟨rfl, rfl, rfl⟩
  · refine ⟨_, rfl, ?_⟩
    rw [State.settle_highway, State.settle_pool, State.settle_lines, State.highwayFrame_of_incomplete hl hn]
    exact ⟨rfl, rfl, rfl⟩
  · refine ⟨_, rfl, ?_⟩
    rw [State.settle_highway, State.settle_pool, State.settle_lines, State.highwayFrame_of_not_live hl]
    exact ⟨rfl, rfl, rfl⟩

end Sys2Proof.Machine

/-! ## What a line's blocks ask of the pool (R18 to R28, R67, R70, R72, R88, R105) -/

namespace Sys2Proof.Machine

variable {s t u : State} {L : LineNo}

/-- Whether a record is RX_DELAY. -/
def RecordBody.isDelay : RecordBody → Bool
  | .rxDelay _ _ => true
  | _ => false

/-- The parts of a line's blocks that hold neither the pool nor the staging of records. -/
abbrev lineParts : List EditPart := [.sup, .base, .dec, .coll, .fault]

/-- `t` comes from `s` by what the blocks of line `L` other than the pool do: edits of lines, records staged that are no
RX_DELAY, releases for `L`, and a request for `L` made while the pool is as it was. -/
inductive PoolUse (L : LineNo) (s : State) : State → Prop where
  | refl : PoolUse L s s
  | edit {t u : State} (h : PoolUse L s t) (e : Edits lineParts t u) : PoolUse L s u
  | stage {t : State} (h : PoolUse L s t) (l : Option LineNo) (b : RecordBody) (v : Bool)
      (hb : b.isDelay = false := by rfl) : PoolUse L s (t.stage l b v)
  | request {t : State} (h : PoolUse L s t) (hp : t.pool = s.pool) : PoolUse L s (t.request L)
  | release {t : State} (h : PoolUse L s t) : PoolUse L s (t.release L)

/-! ### The Digit Collector -/

theorem PoolUse.complete (h : PoolUse L s t) (r : NumberReason) (i : Option Nat) (v : Bool) :
    PoolUse L s (t.complete L r i v) :=
  ((h.stage _ _ v).edit ((Edits.refl.setColl (by decide) _).markTimed L)).release

theorem PoolUse.noDigits (h : PoolUse L s t) : PoolUse L s (t.noDigits L) :=
  ((h.stage _ _ false).edit ((Edits.refl.setColl (by decide) _).markTimed L)).release

theorem PoolUse.appendSymbol (h : PoolUse L s t) (d : Digit) : PoolUse L s (t.appendSymbol L d) := by
  have h1 : PoolUse L s (if (t.line L).coll.string = [] then
      t.stage (some L) (.firstDigit (d.report (t.line L).coll.resumed none)) else t) := by
    split
    · exact h.stage ..
    · exact h
  unfold State.appendSymbol
  dsimp only
  split
  · exact (h1.edit ((Edits.refl.setColl (by decide) _).markTimed L)).complete ..
  · exact h1.edit ((Edits.refl.setColl (by decide) _).markTimed L)

theorem PoolUse.takeSymbol (h : PoolUse L s t) (d : Digit) : PoolUse L s (t.takeSymbol L d) := by
  unfold State.takeSymbol
  split
  · exact h.appendSymbol d
  · exact h.stage ..
  · exact h

theorem PoolUse.collTimeouts (h : PoolUse L s t) (o d : Bool) : PoolUse L s (t.collTimeouts L o d).1 := by
  unfold State.collTimeouts
  dsimp only
  repeat' split
  · exact h.noDigits
  · exact h.complete ..
  · exact h

theorem PoolUse.collectorStep (h : PoolUse L s t) (e : Nat) (o : Bool) (d : Option Digit) :
    PoolUse L s (t.collectorStep L e o d).1 := by
  have h1 : PoolUse L s (t.setColl L ((t.line L).coll.advance e o)) := h.edit (Edits.refl.setColl (by decide) _)
  unfold State.collectorStep
  dsimp only
  split
  · exact (h1.takeSymbol _).collTimeouts ..
  · exact h1.collTimeouts ..

/-! ### The Pulse Decoder -/

theorem PoolUse.endTrain (h : PoolUse L s t) : PoolUse L s (t.endTrain L).1 := by
  unfold State.endTrain
  dsimp only
  repeat' split
  · exact (h.stage ..).edit (Edits.refl.setDec (by decide) _)
  · exact h.edit (Edits.refl.setDec (by decide) _)
  · exact h

theorem PoolUse.setDec (h : PoolUse L s t) (d : PulseDecoder) : PoolUse L s (t.setDec L d) :=
  h.edit (Edits.refl.setDec (by decide) d)

theorem PoolUse.decoderStep (h : PoolUse L s t) (o : Outcome) (e : Nat) : PoolUse L s (t.decoderStep L o e).1 := by
  unfold State.decoderStep
  dsimp only
  split
  · exact h.setDec _
  · split
    · exact (h.setDec _).endTrain.setDec _
    · exact h
  · split
    · exact (h.setDec _).endTrain
    · exact h
  · split
    · exact (h.stage ..).setDec _
    · exact h
  · dsimp only
    split
    · exact h.setDec _
    · exact h
  · split
    · exact (h.setDec _).endTrain
    · exact h

/-! ### The Supervision Engine -/

theorem PoolUse.dropTrain (h : PoolUse L s t) : PoolUse L s (t.dropTrain L) :=
  h.edit (Edits.refl.dropTrain (by decide))

theorem PoolUse.changeHook (h : PoolUse L s t) (k : Hook) : PoolUse L s (t.changeHook L k) :=
  h.edit (Edits.refl.changeHook (by decide) k)

theorem PoolUse.teardown (h : PoolUse L s t) : PoolUse L s (t.teardown L) :=
  h.dropTrain.release.edit (Edits.refl.abandon (by decide))

theorem PoolUse.stopTimer (h : PoolUse L s t) : PoolUse L s (t.stopTimer L) :=
  h.edit (Edits.refl.stopTimer (by decide))

theorem PoolUse.parkIf (h : PoolUse L s t) (b : Bool) : PoolUse L s (t.parkIf L b) := by
  unfold State.parkIf State.park
  repeat' split
  · exact (h.dropTrain.changeHook _).release.stage ..
  · exact h
  · exact h

theorem PoolUse.releaseLine (h : PoolUse L s t) (parked : Bool) : PoolUse L s (t.releaseLine L parked) :=
  (h.teardown.stopTimer.changeHook .onHook).stage (some L)
    (.onHook .release parked (t.line L).coll.uncompleted (t.line L).sup.breakStart) false

theorem PoolUse.guardEntry (h : PoolUse L s t) : PoolUse L s (t.guardEntry L) := by
  have h1 : PoolUse L s (((t.teardown L).stopTimer L).clearStartMark L) :=
    h.teardown.stopTimer.edit (Edits.refl.clearStartMark (by decide))
  have setReturn : ∀ {u : State} (r : ReturnState), PoolUse L s u →
      PoolUse L s (u.setSup L { (u.line L).sup with guardReturn := r }) := fun _ hu =>
    hu.edit (Edits.refl.setSup (by decide) _)
  have h2 : PoolUse L s (t.guarded L) := by
    unfold State.guarded
    revert h1
    generalize ((t.teardown L).stopTimer L).clearStartMark L = u
    exact fun h1 => (setReturn _ h1).changeHook .guard
  cases hg : (t.line L).sup.hook.takesGuard
  · simpa [State.guardEntry, hg] using h
  · rw [State.guardEntry_eq hg]
    split
    · exact h2.stage ..
    · exact h2

theorem PoolUse.guardRequest (h : PoolUse L s t) (g : GuardRequest) : PoolUse L s (t.guardRequest L g) := by
  cases g
  case none => exact h
  case entry => exact h.guardEntry
  case exit => exact h.edit (Edits.refl.guardExit (by decide) (by decide))

/-- A request of a line's seizure or flash. -/
theorem PoolUse.requestIfTone (h : PoolUse L s t) (hp : t.pool = s.pool) : PoolUse L s (t.requestIfTone L) := by
  unfold State.requestIfTone
  split
  · exact h.request hp
  · exact h

theorem PoolUse.confirmSeizure (s : State) (L : LineNo) (x : Sample) : PoolUse L s (s.confirmSeizure L x) := by
  have h : PoolUse L s (s.offHook L x) := (PoolUse.refl.stopTimer.changeHook _).stage ..
  rw [State.confirmSeizure_eq]
  exact (h.edit ((Edits.afterOffHook s L x).mono (by decide))).requestIfTone ((Edits.called s L x).pool (by decide))

theorem PoolUse.flashLine (h : PoolUse L s t) (hp : t.pool = s.pool) (n : Nat) : PoolUse L s (t.flashLine L n) := by
  have h1 : PoolUse L s ((t.dropTrain L).openCollection L false) :=
    h.dropTrain.edit (Edits.refl.openCollection (by decide) false)
  have hp1 : ((t.dropTrain L).openCollection L false).pool = t.pool :=
    ((Edits.refl (ps := [.dec, .coll])).dropTrain (by decide)).openCollection (by decide) false |>.pool (by decide)
  exact (h1.stage (some L) (.flash n (t.line L).coll.uncompleted) false).requestIfTone
    ((State.stage_pool ..).trans (hp1.trans hp))

theorem PoolUse.endBreak (s : State) (L : LineNo) : PoolUse L s (s.endBreak L).1 := by
  have h : PoolUse L s ((s.stopTimer L).changeHook L .active) := PoolUse.refl.stopTimer.changeHook _
  unfold State.endBreak
  dsimp only
  split
  · dsimp only
    exact h.flashLine
      (((Edits.refl (ps := [.sup])).stopTimer (by decide)).changeHook (by decide) _ |>.pool (by decide)) _
  · exact h

/-- The Supervision Engine's step of a sample whose pool is as it was. -/
theorem PoolUse.hookStep (s : State) (L : LineNo) (x : Sample) (f : LoopState) : PoolUse L s (s.hookStep L x f).1 := by
  have h : PoolUse L s s := .refl
  have beginBreak : ∀ k, PoolUse L s (s.beginBreak L k) := fun k => h.edit (Edits.refl.beginBreak (by decide) k)
  unfold State.hookStep
  dsimp only
  split
  · exact h.edit ((Edits.refl.startTimer (by decide)).changeHook (by decide) .seizePending)
  · exact h.edit (Edits.refl.clearStartMark (by decide))
  · exact h.stopTimer.edit ((Edits.refl.clearStartMark (by decide)).changeHook (by decide) .onHook)
  · split
    · dsimp only
      exact PoolUse.confirmSeizure s L x
    · exact h
  · exact beginBreak .openInterval
  · exact h
  · split
    · dsimp only
      exact h.releaseLine false
    · split
      · exact PoolUse.endBreak s L
      · exact h
  · exact beginBreak .parkedOpen
  · exact h
  · split
    · dsimp only
      exact h.releaseLine true
    · split
      · exact h.stopTimer.changeHook .parked
      · exact h
  · exact h

/-! ### The Fault Monitor -/

theorem PoolUse.reportCondition (h : PoolUse L s t) (c : Condition) (o : CondRecord) (f : CondEffect) (k : Hook)
    (v : Nat) (b : Bool) : PoolUse L s (t.reportCondition L c o f k v b) := by
  cases f
  case none => exact h
  case raise => exact h.stage (some L) (.faultRaised c .sense .none k v) b
  case clear => exact h.stage (some L) (.faultCleared c o.source o.raisedAt) false

theorem PoolUse.evalIf (h : PoolUse L s t) (b : Bool) (c : Condition) (p : Bool) (e : Nat) (k : Hook) (v : Nat) :
    PoolUse L s (t.evalIf b L c p e k v).1 := by
  unfold State.evalIf
  split
  · exact (h.edit (Edits.refl.storeCondition (by decide) c _)).reportCondition ..
  · exact h

theorem PoolUse.faultConditions (h : PoolUse L s t) (x : Sample) (c : Conditioned) (k : Hook) (b : Bool) :
    PoolUse L s (t.faultConditions L x c k b).1 := by
  have hx : ∀ f, PoolUse L s ((t.setFault L f).evalCross L x k).1 := fun f =>
    (h.edit (((Edits.refl.setFault (by decide) f).setFault (by decide) _).storeCondition (by decide) .powerCross
      _)).reportCondition ..
  exact ((((hx _).evalIf ..).evalIf ..).evalIf ..).evalIf ..

end Sys2Proof.Machine

/-! ## The pool at a sample: the receivers of other lines, and the notice of a wait (R67, R68, R70, R72) -/

namespace Sys2Proof.Machine

variable {s t u : State} {L : LineNo}

/-! ### A sample cut at the pool's step -/

/-- The state that the pool's step of a sample finds. -/
def State.atPool (s : State) (L : LineNo) (x : Sample) : State :=
  let r2 := s.hookOf L x
  let r4 := (r2.1.baselineStep L ((s.line L).conditioned x) x.i).1.decoderStep L r2.2.outcome x.elapsed.val
  let r5 := r4.1.collectorStep L x.elapsed.val r2.2.opened r4.2.digit
  r5.1.parkIf L r5.2.park

/-- The pool's step of a sample. -/
def State.poolOf (s : State) (L : LineNo) (x : Sample) : State × PoolResult :=
  (s.atPool L x).poolStep L x.elapsed.val (!s.served L)

/-- A taken sample ends with the Fault Monitor and its GUARD request, and reports the pool's step. -/
theorem State.takeSample_pool (x : Sample) (h : (s.line L).sup.hook.discards = false) :
    ∃ k b, let f := (s.poolOf L x).1.faultConditions L x ((s.line L).conditioned x) k b
      (s.takeSample L x).1 = f.1.guardRequest L f.2.guard ∧ (s.takeSample L x).2.pool = (s.poolOf L x).2 := by
  rw [State.takeSample_of_taken x h]
  exact ⟨_, _, rfl, rfl⟩

theorem PoolUse.atPool (s : State) (L : LineNo) (x : Sample) : PoolUse L (s.beforeHook L x) (s.atPool L x) := by
  have h : PoolUse L (s.beforeHook L x) (s.hookOf L x).1 := PoolUse.hookStep ..
  exact (((h.edit (Edits.refl.baselineStep (by decide) ..)).decoderStep ..).collectorStep ..).parkIf _

/-- What follows the pool's step in a sample. -/
theorem PoolUse.afterPool (x : Sample) (h : (s.line L).sup.hook.discards = false) :
    PoolUse L (s.poolOf L x).1 (s.takeSample L x).1 := by
  obtain ⟨k, b, e, -⟩ := State.takeSample_pool x h
  rw [e]
  exact (PoolUse.refl.faultConditions ..).guardRequest _

/-! ### The receivers of other lines (R67, R68, R70) -/

/-- Every receiver that serves a line other than `L` keeps its record. -/
def State.KeepsOthers (L : LineNo) (s t : State) : Prop :=
  ∀ r K, K ≠ L → (s.receiver r).serves K → t.receiver r = s.receiver r

namespace State.KeepsOthers

theorem refl (L : LineNo) (s : State) : KeepsOthers L s s := fun _ _ _ _ => rfl

theorem trans (h : KeepsOthers L s t) (g : KeepsOthers L t u) : KeepsOthers L s u := fun r K hK hr => by
  have e := h r K hK hr
  rw [g r K hK (by rwa [e]), e]

theorem of_pool (h : t.pool = s.pool) : KeepsOthers L s t := fun r _ _ _ => State.receiver_of_pool h r

/-- Writing a receiver that serves no other line. -/
theorem of_receiver (r : RxNo) (hr : ∀ K, K ≠ L → ¬ (s.receiver r).serves K)
    (h : ∀ q, q ≠ r → t.receiver q = s.receiver q) : KeepsOthers L s t := fun q K hK hq =>
  h q fun hqr => hr K hK (hqr ▸ hq)

theorem setReceiver {r : RxNo} (hr : (s.receiver r).serves L) (x : Receiver) : KeepsOthers L s (s.setReceiver r x) :=
  of_receiver r (fun _ hK hs => hK (Option.some.inj (hs.2.symm.trans hr.2)))
    fun _ hq => (State.receiver_setReceiver ..).trans (if_neg hq)

end State.KeepsOthers

theorem State.freeReceiver_state {r : RxNo} (h : s.freeReceiver = some r) : (s.receiver r).state = .free := by
  simpa using List.find?_some h

theorem State.handOver_receiver_other {r q : RxNo} (hq : q ≠ r) : (s.handOver r).receiver q = s.receiver q := by
  unfold State.handOver
  split
  · rfl
  · exact State.attach_receiver_other hq

theorem State.detach_receiver_other {r q : RxNo} (hq : q ≠ r) : (s.detach r L).receiver q = s.receiver q := by
  have h : ((s.setReceiver r (s.receiver r).detached).markTimed L).receiver q = s.receiver q :=
    (State.receiver_setReceiver ..).trans (if_neg hq)
  unfold State.detach
  dsimp only
  split
  · exact h
  · exact (State.handOver_receiver_other hq).trans h

theorem State.request_keepsOthers (s : State) (L : LineNo) : KeepsOthers L s (s.request L) := by
  unfold State.request
  split
  · exact .refl L s
  · split
    · rename_i r hf
      refine .of_receiver r (fun K _ hs => ?_) fun q hq => State.attach_receiver_other hq
      exact absurd (hs.1.symm.trans (State.freeReceiver_state hf)) (by decide)
    · exact fun _ _ _ _ => rfl

theorem State.release_keepsOthers (s : State) (L : LineNo) : KeepsOthers L s (s.release L) := by
  unfold State.release
  split
  · rename_i r hr
    have hs := State.serves_of_receiverOf hr
    exact .of_receiver r (fun K hK hk => hK (Option.some.inj (hk.2.symm.trans hs.2)))
      fun q hq => State.detach_receiver_other hq
  · split
    · exact fun _ _ _ _ => rfl
    · exact .refl L s

theorem PoolUse.keepsOthers (h : PoolUse L s t) : State.KeepsOthers L s t := by
  induction h with
  | refl => exact .refl L s
  | edit _ e ih => exact ih.trans (.of_pool (e.pool (by decide)))
  | stage _ l b v _ ih => exact ih.trans (.of_pool (State.stage_pool ..))
  | request _ _ ih => exact ih.trans (State.request_keepsOthers _ L)
  | release _ ih => exact ih.trans (State.release_keepsOthers _ L)

theorem State.poolStep_keepsOthers (s : State) (L : LineNo) (e : Nat) (b : Bool) :
    KeepsOthers L s (s.poolStep L e b).1 := by
  unfold State.poolStep
  split
  · exact .refl L s
  · split
    · rename_i r hr
      have hset : ∀ x, KeepsOthers L s (s.setReceiver r x) := .setReceiver (State.serves_of_receiverOf hr)
      unfold State.windowStep
      dsimp only
      split
      · exact ((hset _).trans (.of_pool (State.stage_pool ..))).trans (State.release_keepsOthers _ L)
      · exact hset _
    · split
      · unfold State.waitStep
        dsimp only
        split
        · exact fun _ _ _ _ => State.stage_receiver ..
        · exact fun _ _ _ _ => rfl
      · exact .refl L s

theorem State.takeSample_keepsOthers (s : State) (L : LineNo) (x : Sample) :
    KeepsOthers L s (s.takeSample L x).1 := by
  cases h : (s.line L).sup.hook.discards
  · have hb : KeepsOthers L s (s.beforeHook L x) := .of_pool rfl
    exact ((hb.trans (PoolUse.atPool s L x).keepsOthers).trans (State.poolStep_keepsOthers _ L _ _)).trans
      (PoolUse.afterPool x h).keepsOthers
  · rw [State.takeSample_of_discarded x h]
    exact .refl L s

/-- Settles O11: no block of the sampled line writes a receiver that serves another line. -/
theorem sampleKeepsReceiversOfOthers : Obligations.SampleKeepsReceiversOfOthers := by
  intro c s t L K x r hc e hK hst hln
  obtain ⟨due, he⟩ := exec_of_sampleOf hc s
  rw [he] at e
  cases e
  split
  · rw [State.settle_receiver]
    exact s.takeSample_keepsOthers L x r K hK ⟨hst, hln⟩
  · rfl

end Sys2Proof.Machine

/-! ## The tone window and the notice of a wait at a sample (R68 to R73) -/

namespace Sys2Proof.Machine

variable {s t u : State} {L : LineNo}

/-! ### A wait whose notice has been given -/

theorem State.receiverOf_of_pool (h : t.pool = s.pool) (L : LineNo) : t.receiverOf L = s.receiverOf L := by
  simp only [State.receiverOf, State.receiver_of_pool h]

/-- A line without receiver that waits, if at all, in a place whose notice has been given. -/
def State.Noticed (s : State) (L : LineNo) : Prop :=
  s.receiverOf L = none ∧ ∀ q, s.pool.queue.find? (fun e => decide (e.line = L)) = some q → q.noticed = true

theorem State.Noticed.of_pool (h : s.Noticed L) (hp : t.pool = s.pool) : t.Noticed L := by
  rwa [State.Noticed, State.receiverOf_of_pool hp, hp]

theorem State.Noticed.release (h : s.Noticed L) : (s.release L).Noticed L := by
  unfold State.release
  rw [h.1]
  dsimp only
  split
  · refine ⟨h.1, fun q hq => ?_⟩
    have hm := List.mem_of_find?_eq_some hq
    have hl := List.find?_some hq
    have hne := (List.mem_filter.mp hm).2
    simp [of_decide_eq_true hl] at hne
  · exact h

/-- A line that waits asks for no receiver, so what its blocks do leaves it without one, and without a new place. -/
theorem PoolUse.noticed (h : PoolUse L s t) (hs : s.served L = true) (hn : s.Noticed L) : t.Noticed L := by
  induction h with
  | refl => exact hn
  | edit _ e ih => exact ih.of_pool (e.pool (by decide))
  | stage _ l b v _ ih => exact ih.of_pool (State.stage_pool ..)
  | request _ hp ih =>
    rw [State.request, if_pos ((State.served_of_pool hp).trans hs)]
    exact ih
  | release _ ih => exact ih.release

/-- The pool's step gives no notice to such a line. -/
theorem State.Noticed.poolStep (h : s.Noticed L) (e : Nat) (b : Bool) :
    (s.poolStep L e b).2.noticed = false ∧ (s.poolStep L e b).1.journal = s.journal := by
  unfold State.poolStep
  rw [h.1]
  dsimp only
  split
  · exact ⟨rfl, rfl⟩
  · split
    · rename_i q hq
      have hw : ∀ n : Nat, ¬ (1000 * (s.line L).profile.queueWaitNotice ≤ n ∧ q.noticed = false) := fun _ hc =>
        Bool.noConfusion (hc.2.symm.trans (h.2 q hq))
      unfold State.waitStep
      dsimp only
      rw [if_neg (hw _)]
      exact ⟨rfl, rfl⟩
    · exact ⟨rfl, rfl⟩

/-! ### The records staged -/

/-- From `s` to `t` records are staged, none of which is RX_DELAY. -/
def State.AddsNoDelay (s t : State) : Prop :=
  ∃ ext, t.journal.queue = s.journal.queue ++ ext ∧ ∀ x ∈ ext, x.body.isDelay = false

namespace State.AddsNoDelay

theorem of_queue (h : t.journal.queue = s.journal.queue) : AddsNoDelay s t :=
  ⟨[], by rw [h, List.append_nil], fun _ hx => absurd hx List.not_mem_nil⟩

theorem trans (h : AddsNoDelay s t) (g : AddsNoDelay t u) : AddsNoDelay s u := by
  obtain ⟨a, ha, hna⟩ := h
  obtain ⟨b, hb, hnb⟩ := g
  refine ⟨a ++ b, by rw [hb, ha, List.append_assoc], fun x hx => ?_⟩
  rcases List.mem_append.mp hx with hx | hx
  · exact hna x hx
  · exact hnb x hx

theorem stage (s : State) (l : Option LineNo) (b : RecordBody) (v : Bool) (hb : b.isDelay = false) :
    AddsNoDelay s (s.stage l b v) := by
  unfold AddsNoDelay
  rw [State.stage_queue]
  split
  · refine ⟨_, rfl, fun x hx => ?_⟩
    rw [List.mem_singleton.mp hx]
    exact hb
  · exact ⟨[], by rw [List.append_nil], fun _ hx => absurd hx List.not_mem_nil⟩

end State.AddsNoDelay

theorem PoolUse.addsNoDelay (h : PoolUse L s t) : State.AddsNoDelay s t := by
  have queue_of_edits : ∀ {ps u v}, Edits ps u v → .stage ∉ ps → v.journal.queue = u.journal.queue := fun e hn => by
    rw [e.journal hn]
  induction h with
  | refl => exact .of_queue rfl
  | edit _ e ih => exact ih.trans (.of_queue (queue_of_edits e (by decide)))
  | stage _ l b v hb ih => exact ih.trans (.stage _ l b v hb)
  | request _ _ ih =>
    exact ih.trans (.of_queue (queue_of_edits ((Edits.refl (ps := [.pool])).request (by decide) L) (by decide)))
  | release _ ih =>
    exact ih.trans (.of_queue (queue_of_edits ((Edits.refl (ps := [.pool])).release (by decide) L) (by decide)))

/-- A sample of a waiting line whose notice has been given stages no RX_DELAY. -/
theorem State.takeSample_noticed (x : Sample) (hs : s.served L = true) (hn : s.Noticed L) :
    (s.takeSample L x).2.pool.noticed = false ∧ AddsNoDelay s (s.takeSample L x).1 := by
  cases h : (s.line L).sup.hook.discards
  · have hb : (s.beforeHook L x).pool = s.pool := rfl
    have use := PoolUse.atPool s L x
    have hp := (use.noticed ((State.served_of_pool hb).trans hs) (hn.of_pool hb)).poolStep x.elapsed.val (!s.served L)
    obtain ⟨k, b, -, e⟩ := State.takeSample_pool x h
    refine ⟨by rw [e]; exact hp.1, ?_⟩
    have h0 : AddsNoDelay s (s.beforeHook L x) := .of_queue rfl
    have h1 : AddsNoDelay (s.atPool L x) (s.poolOf L x).1 := .of_queue (congrArg Journal.queue hp.2)
    exact ((h0.trans use.addsNoDelay).trans h1).trans (PoolUse.afterPool x h).addsNoDelay
  · rw [State.takeSample_of_discarded x h]
    exact ⟨rfl, .of_queue rfl⟩

theorem State.AddsNoDelay.all_drop (h : AddsNoDelay s t) :
    (t.journal.queue.drop s.journal.queue.length).all
      (fun x => match x.body with | .rxDelay _ _ => false | _ => true) = true := by
  obtain ⟨ext, he, hext⟩ := h
  rw [he, List.drop_left, List.all_eq_true]
  intro x hx
  have := hext x hx
  revert this
  cases x.body <;> simp [RecordBody.isDelay]

theorem State.served_of_find {q : QueueEntry} (h : s.pool.queue.find? (fun x => decide (x.line = L)) = some q) :
    s.served L = true := by
  have hl : decide (q.line = L) = true := List.find?_some (p := fun x : QueueEntry => decide (x.line = L)) h
  have hq : s.queued L = true := List.any_eq_true.mpr ⟨q, List.mem_of_find?_eq_some h, hl⟩
  rw [State.served, hq, Bool.or_true]

theorem exec_queueWaitNotice_of_silent {x : Sample} (h : (s.takeSample L x).2.pool.noticed = false) :
    exec (.queueWaitNotice L x) s = .next s := by
  change s.sampleRow L x (fun r => r.pool.noticed) = _
  simp [State.sampleRow, h]

/-- Of a line whose notice has been given no row of its sample stages another. -/
theorem exec_sample_of_noticed {c : Instr} {x : Sample} {q : QueueEntry} (hc : c.sampleOf = some (L, x))
    (hr : s.receiverOf L = none) (hq : s.pool.queue.find? (fun x => decide (x.line = L)) = some q)
    (hn : q.noticed = true) :
    ∃ t, exec c s = .next t ∧ State.AddsNoDelay s t ∧ (c = .queueWaitNotice L x → t = s) := by
  have hN : s.Noticed L := ⟨hr, fun p hp => by
    rw [hq] at hp
    cases hp
    exact hn⟩
  obtain ⟨hpool, hadds⟩ := State.takeSample_noticed x (State.served_of_find hq) hN
  by_cases hcq : c = .queueWaitNotice L x
  · rw [hcq]
    exact ⟨s, exec_queueWaitNotice_of_silent hpool, .of_queue rfl, fun _ => rfl⟩
  · obtain ⟨due, he⟩ := exec_of_sampleOf hc s
    refine ⟨_, he, ?_, fun h => absurd h hcq⟩
    split
    · exact hadds.trans (.of_queue (State.settle_queue _))
    · exact .of_queue rfl

end Sys2Proof.Machine

namespace Sys2Proof.Machine

variable {s t u v : State} {L : LineNo}

/-! ### The end of an attachment (R68, R70) -/

/-- What becomes of a receiver detached from its line: DISABLED if it was retiring, FREE with an empty queue, and else
attached to the head of the queue. -/
theorem State.detach_cases (s : State) (r : RxNo) (L : LineNo) :
    ((s.receiver r).retire = true ∧ (s.detach r L).receiver r = (s.receiver r).detached ∧
        (s.detach r L).pool.queue = s.pool.queue) ∨
      ((s.receiver r).retire = false ∧ s.pool.queue = [] ∧ (s.detach r L).receiver r = (s.receiver r).detached ∧
        (s.detach r L).pool.queue = []) ∨
      ((s.receiver r).retire = false ∧ ∃ e q, s.pool.queue = e :: q ∧
        (s.detach r L).receiver r = (s.receiver r).detached.attachTo e.line ∧ (s.detach r L).pool.queue = q) := by
  have hr : ((s.setReceiver r (s.receiver r).detached).markTimed L).receiver r = (s.receiver r).detached :=
    State.receiver_setReceiver_self ..
  have hq : ((s.setReceiver r (s.receiver r).detached).markTimed L).pool.queue = s.pool.queue := rfl
  unfold State.detach
  dsimp only
  split
  · rename_i hret
    exact .inl ⟨hret, hr, hq⟩
  · rename_i hret
    rw [Bool.not_eq_true] at hret
    refine .inr ?_
    unfold State.handOver
    split
    · rename_i h0
      exact .inl ⟨hret, h0, hr, h0⟩
    · rename_i e q he
      exact .inr ⟨hret, e, q, he, by rw [State.attach_receiver_self]; exact congrArg (Receiver.attachTo · e.line) hr, rfl⟩

/-- A receiver written with its state and its line serves as before. -/
theorem State.receiverOf_setReceiver {r : RxNo} {x : Receiver} (hst : x.state = (s.receiver r).state)
    (hln : x.line = (s.receiver r).line) (L : LineNo) : (s.setReceiver r x).receiverOf L = s.receiverOf L := by
  unfold State.receiverOf
  congr 1
  funext q
  rw [State.receiver_setReceiver]
  split
  · rename_i hq
    rw [hst, hln, hq]
  · rfl

theorem State.release_of_receiver {r : RxNo} (h : s.receiverOf L = some r) : s.release L = s.detach r L := by
  unfold State.release
  rw [h]

theorem State.served_of_receiver {r : RxNo} (h : s.receiverOf L = some r) : s.served L = true := by
  rw [State.served, h]
  rfl

/-! ### A sample of a line that stays in its call, up to the pool's step -/

/-- Up to the pool only the conditioner, the supervision record and the collection timers of such a line change. -/
theorem Edits.atPool_of_staysInCall {x : Sample} (hstay : (s.line L).staysInCall x = true)
    (hc : (s.line L).noTimeout x.elapsed.val = true) :
    Edits [.sup, .base, .coll] (s.beforeHook L x) (s.atPool L x) ∧
      ((s.atPool L x).line L).sup.hook = (s.line L).hookInCall x := by
  have hb := s.beforeHook_line L x
  obtain ⟨kh, hhook, hout, hopen⟩ := State.hookOf_of_staysInCall hstay
  unfold State.atPool
  dsimp only
  generalize (s.hookOf L x).1 = u at kh hhook
  generalize (s.hookOf L x).2 = r at hout hopen
  have kb : Edits [.base] u (u.baselineStep L ((s.line L).conditioned x) x.i).1 := Edits.refl.baselineStep (by decide) ..
  generalize (u.baselineStep L ((s.line L).conditioned x) x.i).1 = v at kb
  have lv := (kb.line L)
  have lu := (kh.line L)
  have hdec : (v.line L).dec = (s.line L).dec := by rw [lv.dec (by decide), lu.dec (by decide), hb]
  have hcv : (v.line L).noTimeout x.elapsed.val = true := by
    unfold Line.noTimeout at hc ⊢
    rwa [lv.coll (by decide), lu.coll (by decide), lv.profile, lu.profile, hb]
  have hd : v.decoderStep L r.outcome x.elapsed.val = (v, {}) :=
    State.decoderStep_of_closed (by rw [hdec]; exact Line.staysInCall_trainOpen hstay) hout _
  rw [hd, hopen, State.collectorStep_of_noTimeout hcv]
  have kc : Edits [.coll] v (v.setColl L ((v.line L).coll.advance x.elapsed.val false)) :=
    Edits.refl.setColl (by decide) _
  refine ⟨(kh.mono (by decide)).trans ((kb.mono (by decide)).trans (kc.mono (by decide))), ?_⟩
  exact ((kc.line L).hook (by decide)).trans ((lv.hook (by decide)).trans hhook)

/-- After the pool's step such a sample, if it is not high, evaluates the conditions and stages their records. -/
theorem Edits.afterPool_of_staysInCall {x : Sample} (hstay : (s.line L).staysInCall x = true)
    (hx : sampleHigh x = false) : Edits [.fault, .stage] (s.poolOf L x).1 (s.takeSample L x).1 := by
  refine Edits.takeSample_of_low ?_ hx
  simp only [Line.staysInCall, Bool.and_eq_true, Bool.or_eq_true, decide_eq_true_eq] at hstay
  obtain ⟨-, h | ⟨⟨h, -⟩, -⟩⟩ := hstay <;> rw [h] <;> rfl

theorem State.takeSample_pool_report (x : Sample) (h : (s.line L).sup.hook.discards = false) :
    (s.takeSample L x).2.pool = (s.poolOf L x).2 := by
  obtain ⟨_, _, -, e⟩ := State.takeSample_pool x h
  exact e

/-! ### The tone window (R73) -/

theorem State.poolStep_of_receiver {r : RxNo} (h : s.receiverOf L = some r) (e : Nat) :
    s.poolStep L e false = s.windowStep L r e := by
  unfold State.poolStep
  rw [h]
  rfl

/-- A receiver whose tone window has advanced. -/
def Receiver.aged (rx : Receiver) (e : Nat) : Receiver := { rx with window := rx.window.advance e }

@[simp] theorem Receiver.aged_retire (rx : Receiver) (e : Nat) : (rx.aged e).retire = rx.retire := rfl

/-- The state of the pool's step at an expiry, before its release: the window advanced, and RX_WINDOW staged. -/
def State.windowReported (s : State) (L : LineNo) (r : RxNo) (e : Nat) : State :=
  (s.setReceiver r ((s.receiver r).aged e)).stage (some L) (.rxWindow r (s.receiver r).accepted)

theorem State.windowReported_pool (s : State) (L : LineNo) (r : RxNo) (e : Nat) :
    (s.windowReported L r e).pool = (s.setReceiver r ((s.receiver r).aged e)).pool := State.stage_pool ..

theorem State.windowReported_receiver (s : State) (L : LineNo) (r q : RxNo) (e : Nat) :
    (s.windowReported L r e).receiver q = if q = r then (s.receiver r).aged e else s.receiver q :=
  (State.stage_receiver ..).trans (State.receiver_setReceiver ..)

theorem State.windowReported_queue (s : State) (L : LineNo) (r : RxNo) (e : Nat) :
    (s.windowReported L r e).pool.queue = s.pool.queue := by rw [State.windowReported_pool]; rfl

theorem State.windowReported_receiverOf {r : RxNo} (h : s.receiverOf L = some r) (e : Nat) :
    (s.windowReported L r e).receiverOf L = some r :=
  have hx : (s.setReceiver r ((s.receiver r).aged e)).receiverOf L = s.receiverOf L :=
    State.receiverOf_setReceiver (x := (s.receiver r).aged e) rfl rfl L
  ((State.receiverOf_of_pool (s.windowReported_pool L r e) L).trans hx).trans h

/-- At its limit the tone window reports, and its receiver is detached. -/
theorem State.windowStep_of_expiry {r : RxNo} {e : Nat} (hr : s.receiverOf L = some r)
    (h : ((s.receiver r).window.advance e).reached (1000 * (s.line L).profile.toneWindow) = true) :
    s.windowStep L r e = ((s.windowReported L r e).detach r L, { expired := true }) := by
  rw [← State.release_of_receiver (State.windowReported_receiverOf hr e)]
  unfold State.windowStep
  exact if_pos h

theorem exec_toneWindowExpiry_of_reported {x : Sample} (ha : s.sampleArrives L x = true)
    (h : (s.takeSample L x).2.pool.expired = true) :
    exec (.toneWindowExpiry L x) s = .next (s.takeSample L x).1.settle := by
  change s.sampleRow L x (fun r => r.pool.expired) = _
  simp [State.sampleRow, ha, h]

/-- A sample at which the tone window of a line's receiver expires, cut at the detachment of the receiver. -/
theorem State.takeSample_of_expiry {x : Sample} {r : RxNo} (hstay : (s.line L).staysInCall x = true)
    (hx : sampleHigh x = false) (hc : (s.line L).noTimeout x.elapsed.val = true) (hr : s.receiverOf L = some r)
    (hrun : (s.receiver r).window.running = true)
    (hlim : 1000 * (s.line L).profile.toneWindow ≤ min 65535 ((s.receiver r).window.value + x.elapsed.val)) :
    ∃ v, Edits [.sup, .base, .coll] (s.beforeHook L x) v ∧ (v.line L).sup.hook = (s.line L).hookInCall x ∧
      Edits [.fault, .stage] ((v.windowReported L r x.elapsed.val).detach r L) (s.takeSample L x).1 ∧
      (s.takeSample L x).2.pool.expired = true := by
  obtain ⟨kv, hhook⟩ := Edits.atPool_of_staysInCall hstay hc
  have hpool : (s.atPool L x).pool = s.pool := kv.pool (by decide)
  have hprofile : ((s.atPool L x).line L).profile = (s.line L).profile := by
    rw [(kv.line L).profile, State.beforeHook_line]
  have hvr : (s.atPool L x).receiverOf L = some r := (State.receiverOf_of_pool hpool L).trans hr
  have hstep : s.poolOf L x =
      (((s.atPool L x).windowReported L r x.elapsed.val).detach r L, { expired := true }) := by
    rw [State.poolOf, State.served_of_receiver hr, Bool.not_true, State.poolStep_of_receiver hvr]
    exact State.windowStep_of_expiry hvr
      (by rw [State.receiver_of_pool hpool, hprofile]; exact Timer.advance_reached hrun hlim)
  have klast := Edits.afterPool_of_staysInCall hstay hx
  have hreport := State.takeSample_pool_report x (Line.staysInCall_discards hstay)
  rw [hstep] at klast hreport
  exact ⟨s.atPool L x, kv, hhook, klast, by rw [hreport]⟩

/-- Settles O24: the pool's step of the sample stages RX_WINDOW and detaches the receiver, and the later blocks leave the
pool alone. -/
theorem toneWindowExpiryHandsTheReceiverOver : Obligations.ToneWindowExpiryHandsTheReceiverOver := by
  intro s L x r ha hstay hx hc hr hrun hlim
  obtain ⟨v, kv, hhook, klast, hreport⟩ := State.takeSample_of_expiry hstay hx hc hr hrun hlim
  have hrx : ∀ q, v.receiver q = s.receiver q := State.receiver_of_pool (kv.pool (by decide))
  have hqueue : v.pool.queue = s.pool.queue := congrArg Pool.queue (kv.pool (by decide))
  have krel : Edits [.pool] (v.windowReported L r x.elapsed.val) ((v.windowReported L r x.elapsed.val).detach r L) :=
    Edits.refl.detach (by decide) r L
  have hpool := (State.settle_pool (s.takeSample L x).1).trans (klast.pool (by decide))
  refine ⟨_, exec_toneWindowExpiry_of_reported ha hreport, ?_, ?_, fun q hq => ?_, ?_⟩
  · have ku : Edits [.sup, .base, .coll, .pool] (s.beforeHook L x)
        (v.setReceiver r ((v.receiver r).aged x.elapsed.val)) :=
      (kv.mono (by decide)).setReceiver (by decide) r _
    rw [← hrx r]
    exact stagedFirst_of_beforeHook ku (by decide) ((krel.stages.trans klast.stages).trans (.settle _))
  · rw [State.receiver_of_pool hpool, hpool]
    have hcases := (v.windowReported L r x.elapsed.val).detach_cases r L
    rw [State.windowReported_receiver, if_pos rfl, State.windowReported_queue, hrx, hqueue,
      Receiver.aged_retire] at hcases
    rcases hcases with ⟨hret, hd, hq⟩ | ⟨hret, h0, hd, hq⟩ | ⟨hret, e, q, he, hd, hq⟩
    · rw [if_pos hret, hd, hq]
      exact ⟨if_pos hret, rfl, rfl, rfl⟩
    · rw [if_neg (Bool.eq_false_iff.mp hret), hd, hq, h0]
      exact ⟨if_neg (Bool.eq_false_iff.mp hret), rfl, rfl⟩
    · rw [if_neg (Bool.eq_false_iff.mp hret), hd, hq, he]
      exact ⟨rfl, rfl, rfl, rfl, rfl, rfl, rfl, rfl⟩
  · rw [State.receiver_of_pool hpool, State.detach_receiver_other hq, State.windowReported_receiver, if_neg hq, hrx]
  · rw [State.settle_line, (klast.line L).hook (by decide), (krel.line L).hook (by decide)]
    exact (congrArg (fun ln : Line => ln.sup.hook) (State.stage_line ..)).trans hhook

/-! ### The notice of a wait (R72) -/

theorem State.poolStep_of_place {q : QueueEntry} (hr : s.receiverOf L = none)
    (hq : s.pool.queue.find? (fun x => decide (x.line = L)) = some q) (e : Nat) :
    s.poolStep L e false = s.waitStep L q e := by
  unfold State.poolStep
  rw [hr]
  dsimp only
  rw [hq]
  rfl

/-- The state of the pool's step at a notice, before its record: the wait advanced and the notice given. -/
def State.waitNoticed (s : State) (L : LineNo) (q : QueueEntry) (e : Nat) : State :=
  s.setQueue (setEntry s.pool.queue L { q with wait := min 65535 (q.wait + e), noticed := true })

/-- At its limit a wait is reported, once (R72). -/
theorem State.waitStep_of_due {q : QueueEntry} {e : Nat} (hn : q.noticed = false)
    (h : 1000 * (s.line L).profile.queueWaitNotice ≤ min 65535 (q.wait + e)) :
    s.waitStep L q e =
      ((s.waitNoticed L q e).stage (some L) (.rxDelay (queuePosition s.pool.queue L) s.pool.queue.length),
        { noticed := true }) := by
  unfold State.waitStep
  exact if_pos ⟨h, hn⟩

theorem exec_queueWaitNotice_of_reported {x : Sample} (ha : s.sampleArrives L x = true)
    (h : (s.takeSample L x).2.pool.noticed = true) :
    exec (.queueWaitNotice L x) s = .next (s.takeSample L x).1.settle := by
  change s.sampleRow L x (fun r => r.pool.noticed) = _
  simp [State.sampleRow, ha, h]

/-- A sample at which the wait of a line is due for its notice, cut at RX_DELAY. -/
theorem State.takeSample_of_due {x : Sample} {q : QueueEntry} (hstay : (s.line L).staysInCall x = true)
    (hx : sampleHigh x = false) (hc : (s.line L).noTimeout x.elapsed.val = true) (hr : s.receiverOf L = none)
    (hq : s.pool.queue.find? (fun x => decide (x.line = L)) = some q) (hn : q.noticed = false)
    (hlim : 1000 * (s.line L).profile.queueWaitNotice ≤ min 65535 (q.wait + x.elapsed.val)) :
    ∃ v, Edits [.sup, .base, .coll] (s.beforeHook L x) v ∧ (v.line L).sup.hook = (s.line L).hookInCall x ∧
      Edits [.fault, .stage] ((v.waitNoticed L q x.elapsed.val).stage (some L)
        (.rxDelay (queuePosition s.pool.queue L) s.pool.queue.length)) (s.takeSample L x).1 ∧
      (s.takeSample L x).2.pool.noticed = true := by
  obtain ⟨kv, hhook⟩ := Edits.atPool_of_staysInCall hstay hc
  have hpool : (s.atPool L x).pool = s.pool := kv.pool (by decide)
  have hprofile : ((s.atPool L x).line L).profile = (s.line L).profile := by
    rw [(kv.line L).profile, State.beforeHook_line]
  have hstep : s.poolOf L x = (((s.atPool L x).waitNoticed L q x.elapsed.val).stage (some L)
      (.rxDelay (queuePosition s.pool.queue L) s.pool.queue.length), { noticed := true }) := by
    rw [State.poolOf, State.served_of_find hq, Bool.not_true,
      State.poolStep_of_place ((State.receiverOf_of_pool hpool L).trans hr) (by rw [hpool]; exact hq),
      State.waitStep_of_due hn (by rw [hprofile]; exact hlim), hpool]
  have klast := Edits.afterPool_of_staysInCall hstay hx
  have hreport := State.takeSample_pool_report x (Line.staysInCall_discards hstay)
  rw [hstep] at klast hreport
  exact ⟨s.atPool L x, kv, hhook, klast, by rw [hreport]⟩

/-- Settles O25: the pool's step gives the notice and stages RX_DELAY; after it neither that step nor another block of
the sample stages one. -/
theorem queueWaitNoticeOncePerWait : Obligations.QueueWaitNoticeOncePerWait := by
  refine ⟨fun s L x q ha hstay hx hc hr hq hn hlim => ?_, fun s c L x q hc hr hq hn => ?_⟩
  · obtain ⟨v, kv, hhook, klast, hreport⟩ := State.takeSample_of_due hstay hx hc hr hq hn hlim
    have hvpool : v.pool = s.pool := kv.pool (by decide)
    have hpool : (s.takeSample L x).1.settle.pool = (v.waitNoticed L q x.elapsed.val).pool := by
      rw [State.settle_pool, klast.pool (by decide), State.stage_pool]
    have hline : q.line = L := of_decide_eq_true (List.find?_some (p := fun x : QueueEntry => decide (x.line = L)) hq)
    refine ⟨_, exec_queueWaitNotice_of_reported ha hreport, ?_, ?_, ?_, ?_⟩
    · have ku : Edits [.sup, .base, .coll, .pool] (s.beforeHook L x) (v.waitNoticed L q x.elapsed.val) :=
        (kv.mono (by decide)).setQueue (by decide) _
      exact stagedFirst_of_beforeHook ku (by decide) (klast.stages.trans (.settle _))
    · rw [hpool, ← hvpool, ← hline]
      rfl
    · rw [hpool, ← hvpool]
      rfl
    · rw [State.settle_line, (klast.line L).hook (by decide), State.stage_line]
      exact hhook
  · obtain ⟨t, he, hadds, hsame⟩ := exec_sample_of_noticed hc hr hq hn
    exact ⟨t, he, hadds.all_drop, hsame⟩

end Sys2Proof.Machine

/-! ## The end of a block (R75, R77, R80, R89, R100) -/

namespace Sys2Proof.Machine

variable {s t u v : State} {L : LineNo} {slots : List (BitVec 16)}

/-! ### What an accepted symbol leaves of the other receivers' blocks -/

theorem Receiver.attachTo_short (rx : Receiver) (K : LineNo) : (rx.attachTo K).short := fun _ => by
  show 0 + 1 < 160
  decide

theorem Receiver.detached_short (rx : Receiver) : rx.detached.short := fun h => by
  cases hr : rx.retire <;> simp [Receiver.detached, hr] at h

/-- A receiver after a release is as it was, or detached, or newly attached. -/
theorem State.release_short {q : RxNo} (h : (s.receiver q).short) : ((s.release L).receiver q).short := by
  cases hr : s.receiverOf L with
  | none =>
    unfold State.release
    rw [hr]
    dsimp only
    split <;> exact h
  | some r =>
    rw [State.release_of_receiver hr]
    by_cases hq : q = r
    · subst hq
      rcases s.detach_cases q L with ⟨_, e, _⟩ | ⟨_, _, e, _⟩ | ⟨_, _, _, _, e, _⟩ <;> rw [e]
      · exact Receiver.detached_short _
      · exact Receiver.detached_short _
      · exact Receiver.attachTo_short _ _
    · rwa [State.detach_receiver_other hq]

theorem State.request_short {q : RxNo} (h : (s.receiver q).short) : ((s.request L).receiver q).short := by
  unfold State.request
  split
  · exact h
  · split
    · rename_i r _
      by_cases hq : q = r
      · rw [hq, State.attach_receiver_self]
        exact Receiver.attachTo_short _ _
      · rwa [State.attach_receiver_other hq]
    · exact h

/-- No block is filled by what a line's blocks ask of the pool. -/
theorem PoolUse.short (h : PoolUse L s t) {q : RxNo} (hq : (s.receiver q).short) : (t.receiver q).short := by
  induction h with
  | refl => exact hq
  | edit _ e ih => rwa [State.receiver_of_pool (e.pool (by decide))]
  | stage _ l b v _ ih => rwa [State.stage_receiver]
  | request _ _ ih => exact State.request_short ih
  | release _ ih => exact State.release_short ih

/-! ### The receiver that ends its block -/

/-- The receiver at the end of a block, before its symbol is dealt with: an empty block, and the next digit state. -/
def State.blockStored (s : State) (r : RxNo) (rx : Receiver) (d : DigitState) : State :=
  s.setReceiver r { rx.clearBlock with digit := d }

/-- The symbol that a block gives, if any, dealt with. -/
def State.dealt (s : State) (r : RxNo) (L : LineNo) (o : Option Symbol) : State :=
  match o with
  | some x => s.acceptSymbol r L x
  | none => s

theorem State.endBlock_eq (s : State) (r : RxNo) (L : LineNo) (rx : Receiver) :
    s.endBlock r L rx =
      (s.blockStored r rx (rx.digit.step (rx.decided s.settings.toneFloor)).1).dealt r L
        (rx.digit.step (rx.decided s.settings.toneFloor)).2 := rfl

theorem State.countSymbol_receiver_other {r q : RxNo} (hq : q ≠ r) :
    (s.countSymbol r L).receiver q = s.receiver q := by
  unfold State.countSymbol
  split
  · exact (State.receiver_setReceiver ..).trans (if_neg hq)
  · rfl

theorem State.endBlock_short {r q : RxNo} (hq : q ≠ r) (rx : Receiver) (h : (s.receiver q).short) :
    ((s.endBlock r L rx).receiver q).short := by
  have hstore : ∀ d, ((s.blockStored r rx d).receiver q).short := fun d => by
    rwa [State.blockStored, State.receiver_setReceiver, if_neg hq]
  rw [State.endBlock_eq]
  unfold State.dealt
  split
  · unfold State.acceptSymbol
    split
    · rw [State.countSymbol_receiver_other hq]
      exact (PoolUse.refl.takeSymbol _).short (hstore _)
    · rw [State.stage_receiver]
      exact hstore _
  · exact hstore _

theorem State.receiverFrame_of_full {a : State × List RxNo} {r : RxNo} (hr : (a.1.receiver r).serves L)
    (hf : 159 ≤ (a.1.receiver r).blockCount) :
    State.receiverFrame slots a r =
      (a.1.endBlock r L ((a.1.receiver r).sampled (slotSample slots L)), a.2 ++ [r]) := by
  obtain ⟨hst, hln⟩ := hr
  unfold State.receiverFrame
  simp only [hst, hln]
  exact if_pos (Nat.succ_le_succ hf)

/-- The step of a receiver's digit state at the end of a block that a frame fills for its line. -/
def Receiver.stepped (rx : Receiver) (slots : List (BitVec 16)) (L : LineNo) (floor : Nat) : DigitState × Option Symbol :=
  rx.digit.step ((rx.sampled (slotSample slots L)).decided floor)

/-- A frame at which one receiver alone fills its block: the receivers before it are fed, its block ends, and those after
it are fed. -/
theorem State.highwayFrame_of_blockEnd {r : RxNo} (hl : s.run.control.live = true) (hn : slots.length = 128)
    (hg : s.highway.good = true) (hr : (s.receiver r).serves L) (hf : 159 ≤ (s.receiver r).blockCount)
    (ho : ∀ q, q ≠ r → (s.receiver q).short) :
    let d := (s.receiver r).stepped slots L s.settings.toneFloor
    ∃ v w : State, v = { s with highway := v.highway, pool := v.pool } ∧
      v.receiver r = { (s.receiver r).clearBlock with digit := d.1 } ∧
      s.highwayFrame slots = (w, { ended := [r] }) ∧ w = { v.dealt r L d.2 with pool := w.pool } ∧
      w.receiver r = (v.dealt r L d.2).receiver r := by
  obtain ⟨before, after, hall⟩ := List.append_of_mem (mem_allRx r)
  have hnodup := allRx_nodup
  rw [hall, List.nodup_append, List.nodup_cons] at hnodup
  obtain ⟨hnb, ⟨hra, hna⟩, hdis⟩ := hnodup
  have hrb : r ∉ before := fun h => hdis r h r List.mem_cons_self rfl
  obtain ⟨u, hu, ku⟩ := State.receiversFeed (slots := slots) hnb
    (a := (s.setHighway { s.highway with credit := true }, [])) fun q hq => ho q (ne_of_mem_of_not_mem hq hrb)
  have hur : u.receiver r = s.receiver r := (ku.receiver r).trans (if_neg hrb)
  have hend := State.receiverFrame_of_full (slots := slots) (a := (u, [])) (by rw [hur]; exact hr) (by rw [hur]; exact hf)
  obtain ⟨w, hw, kw⟩ := State.receiversFeed (slots := slots) hna (a := State.receiverFrame slots (u, []) r)
    fun q hq => by
      have hqr : q ≠ r := ne_of_mem_of_not_mem hq hra
      have hqb : q ∉ before := fun h => hdis q h q (List.mem_cons_of_mem r hq) rfl
      rw [hend]
      exact State.endBlock_short hqr _ (by rw [ku.receiver q, if_neg hqb]; exact ho q hqr)
  have hfloor : u.settings.toneFloor = s.settings.toneFloor := by rw [ku.rest]; rfl
  rw [hend, hur, State.endBlock_eq, hfloor] at hw kw
  refine ⟨u.blockStored r ((s.receiver r).sampled (slotSample slots L))
    ((s.receiver r).stepped slots L s.settings.toneFloor).1, w, ?_, State.receiver_setReceiver_self .., ?_, ?_,
    (kw.receiver r).trans (if_neg hra)⟩
  · rw [ku.rest]
    rfl
  · rw [State.highwayFrame_of_good hl hn hg, State.receiversTake, hall, List.foldl_append, hu, List.foldl_cons, hend,
      hur, State.endBlock_eq, hfloor, hw]
    rfl
  · rw [kw.rest]
    rfl

/-- A symbol is accepted at PRESENT only (R79). -/
theorem DigitState.step_accepts {d : DigitState} {o : Option Symbol} {x : Symbol} (h : (d.step o).2 = some x) :
    (d.step o).1 = .present x := by
  cases d with
  | quiet => cases o <;> cases h
  | candidate y =>
    cases o with
    | none => cases h
    | some z =>
      by_cases hyz : y = z
      · simpa [DigitState.step, hyz] using h
      · simp [DigitState.step, hyz] at h
  | present y =>
    cases o with
    | none => cases h
    | some z => by_cases hyz : y = z <;> simp [DigitState.step, hyz] at h
  | ending y =>
    cases o with
    | none => cases h
    | some z => by_cases hyz : y = z <;> simp [DigitState.step, hyz] at h

/-! ### The symbol dealt with (R80, R89, R100) -/

theorem State.countSymbol_lines (s : State) (r : RxNo) (L : LineNo) : (s.countSymbol r L).lines = s.lines := by
  unfold State.countSymbol
  split <;> rfl

theorem State.countSymbol_journal (s : State) (r : RxNo) (L : LineNo) : (s.countSymbol r L).journal = s.journal := by
  unfold State.countSymbol
  split <;> rfl

theorem State.countSymbol_receiver {r : RxNo} (h : (s.receiver r).line = some L) :
    (s.countSymbol r L).receiver r = (s.receiver r).counted := by
  unfold State.countSymbol
  rw [if_pos h, State.receiver_setReceiver_self]

/-- Outside COLLECTING a symbol asks nothing of the pool (R89, R100). -/
theorem State.takeSymbol_pool_of_not_collecting (h : (s.line L).coll.state ≠ .collecting) (d : Digit) :
    (s.takeSymbol L d).pool = s.pool := by
  unfold State.takeSymbol
  split
  · exact absurd ‹_› h
  · exact State.stage_pool ..
  · rfl

theorem State.takeSymbol_of_collecting (h : (s.line L).coll.state = .collecting) (d : Digit) :
    s.takeSymbol L d = s.appendSymbol L d := by
  rw [State.takeSymbol, h]

theorem State.takeSymbol_of_done (h : (s.line L).coll.state = .done) (d : Digit) :
    s.takeSymbol L d = s.stage (some L) (.lateDigit (d.report false d.receiver)) := by
  rw [State.takeSymbol, h]

/-- What a symbol handed on leaves (R80, R89, R100), where its receiver serves the line. -/
theorem State.acceptSymbol_of_handed {r : RxNo} {x : Symbol}
    (h : x.val < 12 ∨ (s.line L).profile.acceptAbcd = true) (hr : (s.receiver r).line = some L) :
    ((s.line L).coll.state = .collecting →
        ((s.acceptSymbol r L x).line L).coll.string = (s.line L).coll.string ++ [⟨x, .tone, false, false⟩]) ∧
      ((s.line L).coll.state = .done →
        Stages (s.stage (some L) (.lateDigit ⟨x, .tone, false, false, false, 0, 0, some r⟩)) (s.acceptSymbol r L x)) ∧
      ((s.line L).coll.state ≠ .collecting → (s.acceptSymbol r L x).receiver r = (s.receiver r).counted) := by
  have e : s.acceptSymbol r L x = (s.takeSymbol L (toneDigit r x)).countSymbol r L := if_pos h
  rw [e]
  refine ⟨fun hc => ?_, fun hc => ?_, fun hc => ?_⟩
  · rw [State.line_of_lines (State.countSymbol_lines ..), State.takeSymbol_of_collecting hc, State.appendSymbol_string]
    rfl
  · rw [State.takeSymbol_of_done hc]
    have hj := (s.stage (some L) (.lateDigit ⟨x, .tone, false, false, false, 0, 0, some r⟩)).countSymbol_journal r L
    exact .of_journal (by rw [← hj]; rfl) (by rw [← hj]; rfl) (by rw [← hj]; rfl) (by rw [← hj]; rfl)
      (by rw [← hj]; rfl) (by rw [← hj]; exact id) (by rw [← hj]; exact id)
  · have hrx := State.receiver_of_pool (State.takeSymbol_pool_of_not_collecting hc (toneDigit r x)) r
    rw [State.countSymbol_receiver (by rw [hrx, hr]), hrx]

theorem exec_blockEnd_of_ended {r : RxNo} {w : State} (h : s.highwayFrame slots = (w, { ended := [r] })) :
    exec (.blockEnd r slots) s = .next w.settle := by
  change Host.Outcome.next (if (s.highwayFrame slots).2.ended.contains r then _ else _) = _
  rw [h]
  simp

/-- Settles O34: the frame ends the one block, and its symbol, if one is accepted, goes to the line or is refused. -/
theorem blockEndStepsTheDigitState : Obligations.BlockEndStepsTheDigitState := by
  intro s slots r L hl hn hg hst hln hfull ho
  obtain ⟨v, w, hv, hvr, hframe, hw, hwr⟩ := State.highwayFrame_of_blockEnd hl hn hg ⟨hst, hln⟩ hfull ho
  refine ⟨_, exec_blockEnd_of_ended hframe, ?_⟩
  have haccept : ∀ x, ((s.receiver r).stepped slots L s.settings.toneFloor).2 = some x →
      ((s.receiver r).stepped slots L s.settings.toneFloor).1 = .present x := fun _ => DigitState.step_accepts
  intro d
  have hd : (s.receiver r).stepped slots L s.settings.toneFloor = d := rfl
  rw [hd] at hw hwr hvr haccept
  clear_value d
  have hvj : v.journal = s.journal := by rw [hv]
  have hvt : v.time = s.time := by rw [hv]
  have hvl : v.lines = s.lines := by rw [hv]
  have hvL : v.line L = s.line L := State.line_of_lines hvl L
  have hvln : (v.receiver r).line = some L := by rw [hvr]; exact hln
  rw [State.settle_receiver, State.settle_lines, State.settle_queue, State.settle_line, hwr]
  refine ⟨fun hnone => ?_, fun x hx => ?_⟩
  · rw [hnone] at hw ⊢
    rw [hw]
    exact ⟨hvr, hvl, congrArg Journal.queue hvj⟩
  · have hdealt : v.dealt r L (some x) = v.acceptSymbol r L x := rfl
    rw [hx, hdealt] at hw ⊢
    have hpresent := haccept x hx
    have later : ∀ {b}, Stages (v.stage (some L) b) (v.acceptSymbol r L x) → s.stagedFirst w.settle s.time (some L) b :=
      fun h => hvt ▸ stagedFirst_of_stage (congrArg Journal.queue hvj) (congrArg Journal.dropped hvj)
        ((h.trans (by rw [hw]; exact .of_journal rfl rfl rfl rfl rfl id id)).trans (.settle w))
    split
    · rename_i hhand
      obtain ⟨hcoll, hdone, hcount⟩ := State.acceptSymbol_of_handed (s := v) (L := L) (r := r) (x := x)
        (by rw [hvL]; exact hhand) hvln
      rw [hvL] at hcoll hdone hcount
      refine ⟨fun hc => ?_, fun hc => later (hdone hc), fun hc => ?_⟩
      · rw [hw]
        exact hcoll hc
      · rw [hcount hc, hvr, hpresent]
        exact ⟨rfl, rfl, rfl⟩
    · rename_i hrefused
      have e : v.acceptSymbol r L x = v.stage (some L) (.symbolRefused r x) := if_neg (by rw [hvL]; exact hrefused)
      rw [e, State.stage_receiver, hvr, hpresent]
      exact ⟨later (by rw [e]; exact .refl _), rfl, rfl, rfl⟩

end Sys2Proof.Machine

/-! ## ATTACH_RECEIVER and DETACH_RECEIVER at the pool (R67, R68, R69, R70, R132) -/

namespace Sys2Proof.Machine

variable {s t u v : State} {L : LineNo} {o : Order} {r : RxNo}

/-! ### What a request meets -/

theorem State.queued_of_pool (h : t.pool = s.pool) (L : LineNo) : t.queued L = s.queued L := by
  unfold State.queued
  rw [h]

theorem State.served_of_place (h : s.queued L = true) : s.served L = true := by simp [State.served, h]

theorem State.request_of_served (h : s.served L = true) : s.request L = s := if_pos h

theorem State.answer_of_receiver (h : s.receiverOf L = some r) : s.answer L = .attached r := by
  rw [State.answer, h]

theorem State.answer_of_place (hr : s.receiverOf L = none) (hq : s.queued L = true) : s.answer L = .queued := by
  simp [State.answer, hr, hq]

theorem State.answer_of_free (hr : s.receiverOf L = none) (hq : s.queued L = false) (hf : s.freeReceiver = some r) :
    s.answer L = .attached r := by
  simp [State.answer, hr, hq, hf]

theorem State.answer_of_none (hr : s.receiverOf L = none) (hq : s.queued L = false) (hf : s.freeReceiver = none) :
    s.answer L = .queued := by
  simp [State.answer, hr, hq, hf]

theorem State.not_served (hr : s.receiverOf L = none) (hq : s.queued L = false) : s.served L = false := by
  simp [State.served, hr, hq]

/-! ### What a release takes away -/

theorem State.held_of_receiver (h : s.receiverOf L = some r) : s.held L = .receiver r := by
  rw [State.held, h]

theorem State.held_of_place (hr : s.receiverOf L = none) (hq : s.queued L = true) : s.held L = .place := by
  simp [State.held, hr, hq]

theorem State.held_of_nothing (hr : s.receiverOf L = none) (hq : s.queued L = false) : s.held L = .nothing := by
  simp [State.held, hr, hq]

theorem State.release_of_place (hr : s.receiverOf L = none) (hq : s.queued L = true) :
    s.release L = (s.setQueue (s.pool.queue.filter (fun e => !decide (e.line = L)))).markTimed L := by
  simp [State.release, hr, hq]

/-! ### The result data -/

theorem Answer.attached_data (r : RxNo) :
    (Answer.attached r).data = 1 :: BitVec.ofNat 8 r.val :: List.replicate 25 0 := rfl

theorem Answer.queued_data : Answer.queued.data = 2 :: List.replicate 26 0 := rfl

theorem Taken.receiver_data (r : RxNo) :
    (Taken.receiver r).data = 1 :: BitVec.ofNat 8 r.val :: List.replicate 25 0 := rfl

theorem Taken.place_data : Taken.place.data = 2 :: List.replicate 26 0 := rfl

theorem Taken.nothing_data : Taken.nothing.data = List.replicate 27 0 := rfl

/-! ### The orders -/

theorem State.carryOut_attach (hk : o.kind = some .attachReceiver) (hl : o.lineField = L.val) :
    u.carryOut o = (u.atPhase (.executing o .engine)).orderAttach L := by
  simp only [State.carryOut, hk, State.onLine_of_field hl]

theorem State.carryOut_detach (hk : o.kind = some .detachReceiver) (hl : o.lineField = L.val) :
    u.carryOut o = (u.atPhase (.executing o .engine)).orderDetach L := by
  simp only [State.carryOut, hk, State.onLine_of_field hl]

/-- An ATTACH_RECEIVER in execution (R67, R132). -/
theorem State.exec_attach (ht : s.taking = some o) (hk : o.kind = some .attachReceiver) (hl : o.lineField = L.val) :
    ∃ u, Taking s o u ∧ u.executor.phase = .executing o .engine ∧
      ∃ t, exec (.attachReceiver L) s = .next t ∧ Answers (u.orderAttach L) t := by
  obtain ⟨v, hv, ha⟩ := State.accessDone_taking ht []
  rw [State.carryOut_attach hk hl] at ha
  exact ⟨_, hv.atPhase _, rfl, _, State.orderRow_of_due (State.takesFor_of_taking ht hk hl) [], ha⟩

/-- A DETACH_RECEIVER in execution (R70, R132). -/
theorem State.exec_detach (ht : s.taking = some o) (hk : o.kind = some .detachReceiver) (hl : o.lineField = L.val) :
    ∃ u, Taking s o u ∧ u.executor.phase = .executing o .engine ∧
      ∃ t, exec (.detachReceiver L) s = .next t ∧ Answers (u.orderDetach L) t := by
  obtain ⟨v, hv, ha⟩ := State.accessDone_taking ht []
  rw [State.carryOut_detach hk hl] at ha
  exact ⟨_, hv.atPhase _, rfl, _, State.orderRow_of_due (State.takesFor_of_taking ht hk hl) [], ha⟩

/-- What a pool order in execution leaves of the rest: the pool of its request or release, and its line's supervision
record and collection and the record queue as before. -/
structure PoolAnswered (s : State) (L : LineNo) (o : Order) (v : State) (res : OrderResult) (t : State) : Prop where
  pool : t.pool = v.pool
  phase : t.executor.phase = .writeResult o res
  kept : (t.line L).sup = (s.line L).sup ∧ (t.line L).coll = (s.line L).coll ∧ t.journal.queue = s.journal.queue

theorem Taking.poolAnswered {res : OrderResult} (hu : Taking s o u) (hx : u.executor.phase = .executing o .engine)
    (he : Edits [.pool] u v) (hn : Near L u v) (hsup : (v.line L).sup = (u.line L).sup)
    (ha : Answers (v.completeOrder res) t) : PoolAnswered s L o v res t := by
  obtain ⟨hlines, hpool, hphase, -, -, hqueue, -⟩ := State.accessDone_lineOrder hu hx (he.mono (by decide)) hn ha
  have hline : t.line L = v.line L := State.line_of_lines hlines L
  exact ⟨hpool, hphase, by rw [hline, hsup, hu.line], by rw [hline, (he.line L).coll (by decide), hu.line], hqueue⟩

theorem Hook.takesReceiver_iff {h : Hook} : h.takesReceiver = true ↔ h = .active ∨ h = .openInterval := by
  cases h <;> decide

theorem Taking.orderAttach (hu : Taking s o u) (hx : u.executor.phase = .executing o .engine)
    (hh : (s.line L).sup.hook.takesReceiver = true) (ha : Answers (u.orderAttach L) t) :
    PoolAnswered s L o (u.request L) ⟨resultOk, (u.answer L).data⟩ t := by
  rw [State.orderAttach, if_pos (by rw [hu.line]; exact hh)] at ha
  exact hu.poolAnswered hx (Edits.refl.request (by decide) L) ((Near.refl L u).request L) (by simp) ha

theorem Taking.orderAttach_refused (hu : Taking s o u) (hx : u.executor.phase = .executing o .engine)
    (hh : ¬ (s.line L).sup.hook.takesReceiver = true) (ha : Answers (u.orderAttach L) t) :
    PoolAnswered s L o u ⟨resultWrongState, emptyData⟩ t := by
  rw [State.orderAttach, if_neg (by rw [hu.line]; exact hh)] at ha
  exact hu.poolAnswered hx .refl (.refl L u) rfl ha

theorem Taking.orderDetach (hu : Taking s o u) (hx : u.executor.phase = .executing o .engine)
    (ha : Answers (u.orderDetach L) t) : PoolAnswered s L o (u.release L) ⟨resultOk, (u.held L).data⟩ t :=
  hu.poolAnswered hx (Edits.refl.release (by decide) L) ((Near.refl L u).release L) (by simp) ha

/-- Settles O50: the answer and the pool follow what the line holds when its order is carried out. -/
theorem receiverOrdersAtThePool : Obligations.ReceiverOrdersAtThePool := by
  refine ⟨fun s o L ht hk hl => ?_, fun s o L ht hk hl => ?_⟩
  · obtain ⟨u, hu, hx, t, he, ha⟩ := State.exec_attach ht hk hl
    have hp : s.pool = u.pool := by rw [hu.rest]
    have hrx : ∀ q, s.receiver q = u.receiver q := State.receiver_of_pool hp
    simp only [State.receiverOf_of_pool hp, State.queued_of_pool hp, State.freeReceiver_of_pool hp, hp, hrx]
    refine ⟨t, he, ?_⟩
    by_cases hh : (s.line L).sup.hook = .active ∨ (s.line L).sup.hook = .openInterval
    · obtain ⟨hpool, hphase, hkept⟩ := hu.orderAttach hx (Hook.takesReceiver_iff.mpr hh) ha
      refine ⟨?_, hkept⟩
      rw [if_pos hh]
      split
      · rename_i r hr
        rw [State.request_of_served (State.served_of_receiver hr)] at hpool
        rw [State.answer_of_receiver hr, Answer.attached_data] at hphase
        exact ⟨hpool, hphase⟩
      · rename_i hr
        split
        · rename_i hq
          rw [State.request_of_served (State.served_of_place hq)] at hpool
          rw [State.answer_of_place hr hq, Answer.queued_data] at hphase
          exact ⟨hpool, hphase⟩
        · rename_i hq
          rw [Bool.not_eq_true] at hq
          split
          · rename_i r hf
            rw [State.request_of_free (State.not_served hr hq) hf] at hpool
            rw [State.answer_of_free hr hq hf, Answer.attached_data] at hphase
            refine ⟨(congrArg Pool.queue hpool).trans rfl, fun q hne => ?_, ?_, hphase⟩
            · rw [State.receiver_of_pool hpool, State.attach_receiver_other hne]
            · rw [State.receiver_of_pool hpool, State.attach_receiver_self]
              rfl
          · rename_i hf
            rw [State.request_of_none (State.not_served hr hq) hf] at hpool
            rw [State.answer_of_none hr hq hf, Answer.queued_data] at hphase
            exact ⟨(congrArg Pool.rx hpool).trans rfl, (congrArg Pool.queue hpool).trans rfl, hphase⟩
    · obtain ⟨hpool, hphase, hkept⟩ := hu.orderAttach_refused hx (fun h => hh (Hook.takesReceiver_iff.mp h)) ha
      refine ⟨?_, hkept⟩
      rw [if_neg hh]
      exact ⟨hpool, hphase⟩
  · obtain ⟨u, hu, hx, t, he, ha⟩ := State.exec_detach ht hk hl
    have hp : s.pool = u.pool := by rw [hu.rest]
    have hrx : ∀ q, s.receiver q = u.receiver q := State.receiver_of_pool hp
    obtain ⟨hpool, hphase, hkept⟩ := hu.orderDetach hx ha
    simp only [State.receiverOf_of_pool hp, State.queued_of_pool hp, hp, hrx]
    refine ⟨t, he, ?_, hkept⟩
    split
    · rename_i r hr
      rw [State.release_of_receiver hr] at hpool
      rw [State.held_of_receiver hr, Taken.receiver_data] at hphase
      refine ⟨hphase, fun q hne => ?_, ?_⟩
      · rw [State.receiver_of_pool hpool, State.detach_receiver_other hne]
      · rw [State.receiver_of_pool hpool, hpool]
        rcases u.detach_cases r L with ⟨hret, hrec, hque⟩ | ⟨hret, h0, hrec, hque⟩ | ⟨hret, e, q, he, hrec, hque⟩
        · rw [if_pos hret, hrec, hque]
          exact ⟨if_pos hret, rfl, rfl⟩
        · rw [if_neg (by simp [hret]), hrec, hque, h0]
          exact ⟨if_neg (by simp [hret]), rfl, rfl⟩
        · rw [if_neg (by simp [hret]), hrec, hque, he]
          exact ⟨rfl, rfl, rfl, rfl, rfl⟩
    · rename_i hr
      cases hq : u.queued L
      · rw [State.release_of_not_served (State.not_served hr hq)] at hpool
        rw [State.held_of_nothing hr hq, Taken.nothing_data] at hphase
        exact ⟨congrArg Pool.rx hpool, congrArg Pool.queue hpool, hphase⟩
      · rw [State.release_of_place hr hq] at hpool
        rw [State.held_of_place hr hq, Taken.place_data] at hphase
        simp only [decide_not]
        exact ⟨(congrArg Pool.rx hpool).trans rfl, (congrArg Pool.queue hpool).trans rfl, hphase⟩

end Sys2Proof.Machine

/-! ## What follows where the executor has gone on (R161, R165, R172, R181) -/

namespace Sys2Proof.Machine

variable {s t u v : State} {o : Order}

/-- What follows where the executor has gone on leaves the copies too, and starts no batch absolute timer. -/
structure Resumes (u t : State) : Prop extends Answers u t where
  plan : t.plan = u.plan
  settings : t.settings = u.settings
  geometry : t.geometry = u.geometry
  absolute : u.journal.absolute.timer.running = false → t.journal.absolute.timer.running = false

theorem State.grantShared_absolute (s : State) : s.grantShared.journal.absolute = s.journal.absolute := by
  have hg : s.journalGranted.journal.absolute = s.journal.absolute := by
    unfold State.journalGranted
    repeat' split
    all_goals rfl
  unfold State.grantShared
  split
  · split
    · rfl
    · exact hg
  · exact hg
  · rfl
  · rfl

theorem State.settle_absolute (h : s.journal.absolute.timer.running = false) :
    s.settle.journal.absolute.timer.running = false := by
  unfold State.settle
  split
  · exact h
  · split
    · unfold State.grantStart
      split <;> exact h
    · split
      · exact h
      · rw [State.grantShared_absolute]
        exact h
    · rw [State.grantShared_absolute]
      unfold State.beginFinal
      split
      · rfl
      · exact h
    · exact h

theorem State.owedWork_absolute (h : s.journal.absolute.timer.running = false) :
    s.owedWork.journal.absolute.timer.running = false := by
  unfold State.owedWork
  repeat' split
  · exact h
  · rfl
  · exact h
  · exact h

theorem State.owedLook_rest (s : State) : s.owedLook = s.setExecutor s.owedLook.executor := by
  unfold State.owedLook
  split <;> rfl

theorem State.returned_rest (s : State) :
    s.returned = { s with journal := s.owedWork.journal, executor := s.returned.executor } :=
  (State.owedLook_rest _).trans (congrArg (State.setExecutor · s.returned.executor) (BeginsWork.owedWork (s := s)).rest)

theorem Resumes.settle (u : State) : Resumes u u.settle where
  toAnswers := (Answers.refl u).settle
  plan := u.settle_plan
  settings := u.settle_settings
  geometry := u.settle_geometry
  absolute := State.settle_absolute

theorem Resumes.returned (u : State) : Resumes u u.returned where
  toAnswers := .returned u
  plan := by rw [State.returned_rest]
  settings := by rw [State.returned_rest]
  geometry := by rw [State.returned_rest]
  absolute h := by
    rw [State.returned_rest]
    exact State.owedWork_absolute h

theorem Resumes.trans (h : Resumes s t) (k : Resumes t u) : Resumes s u where
  time := k.time.trans h.time
  lines := k.lines.trans h.lines
  pool := k.pool.trans h.pool
  test := k.test.trans h.test
  queue := k.queue.trans h.queue
  executor hp := (k.executor (by rwa [h.executor hp])).trans (h.executor hp)
  plan := k.plan.trans h.plan
  settings := k.settings.trans h.settings
  geometry := k.geometry.trans h.geometry
  absolute hs := k.absolute (h.absolute hs)

/-- A good response to a live access of the executor, in RUNNING or as the retry that ends MEMORY_ERROR: the executor goes
on, and in RUNNING the port alone acts after it. -/
theorem State.resumes_executor {a : Access} {data : List Byte} (h : s.inFlight = some a) (hu : a.unit = .executor)
    (ha : a.answeredBy data = true) :
    ∃ r, r.control ≠ .stopping ∧ Resumes ((s.setRun r).executorDone data) (s.accessDone data) ∧
      (s.run.control = .running →
        r.control = .running ∧ Stages ((s.setRun r).executorDone data) (s.accessDone data)) := by
  obtain ⟨hp, hc⟩ := (s.inFlight_eq_some_iff a).mp h
  unfold State.accessDone
  simp only [hp, ha, hu, if_true]
  rcases hc with hc | hc
  · simp only [hc]
    refine ⟨s.freePort.run, ?_, .settle _, fun _ => ⟨hc, .settle _⟩⟩
    show s.run.control ≠ _
    rw [hc]
    decide
  · simp only [hc]
    cases hf : s.run.freezeAsked
    · rw [State.retryDone_of_not_freeze (s := s.freePort) hf]
      exact ⟨{ s.freePort.run with failed := none, control := .running }, nofun,
        (Resumes.returned _).trans (.settle _), nofun⟩
    · rw [State.retryDone_of_freeze (s := s.freePort) hf]
      generalize hv : (s.freePort.setRun { s.freePort.run with failed := none }).enterFrozen = v
      have hs : v = s.setRun v.run := by rw [← hv]; rfl
      have hr : v.run.control = .frozen := by rw [← hv]; rfl
      exact ⟨v.run, by rw [hr]; decide, by rw [← hs]; exact .settle _, nofun⟩

/-- The good response to a TAKEN write carries the order out (R128, R129). -/
theorem State.resumes_taking (h : s.taking = some o) (data : List Byte) :
    ∃ u, Taking s o u ∧ Resumes (u.carryOut o) (s.accessDone data) := by
  obtain ⟨a, n, ha, hu, hw, hp⟩ := State.taking_eq_some h
  obtain ⟨r, hr, k, -⟩ := State.resumes_executor ha hu (Access.answeredBy_of_write data hw)
  refine ⟨(s.setRun r).setExecutor
    { s.executor.advance s.geometry o.list with current := o.list, served := n },
    ⟨rfl, Eq.trans (by cases o.list <;> rfl) (s.executor.advance_next s.geometry o.list), rfl⟩, ?_⟩
  have hd : (s.setRun r).executorDone data = (s.setRun r).orderTaken o n := by
    rw [State.executorDone, show (s.setRun r).executor.phase = .takeWrite o n from hp]
  rwa [hd, State.orderTaken_of_not_stopping hr] at k

/-- The good response to a read of an order in execution (R133, R137, R138). -/
theorem State.resumes_workRead {a : Access} {data : List Byte} {w : OrderWork} (h : s.inFlight = some a)
    (hu : a.unit = .executor) (hd : data.length = a.length) (hp : s.executor.phase = .executing o w) :
    ∃ r, Resumes ((s.setRun r).workRead o data w) (s.accessDone data) ∧
      (s.run.control = .running →
        r.control = .running ∧ Stages ((s.setRun r).workRead o data w) (s.accessDone data)) := by
  obtain ⟨r, -, k⟩ := State.resumes_executor h hu (data := data) (by simp [Access.answeredBy, hd])
  rw [State.executorDone, show (s.setRun r).executor.phase = .executing o w from hp] at k
  exact ⟨r, k⟩

theorem State.reading_eq {a : Access} {w : OrderWork} {is : OrderWork → Bool} (h : s.inFlight = some a)
    (hu : a.unit = .executor) (hw : a.write = false) (hp : s.executor.phase = .executing o w) :
    s.reading is = is w := by
  simp [State.reading, h, hu, hw, hp]

end Sys2Proof.Machine

/-! ## RELOAD_PLAN and RELOAD_SETTINGS (R74, R86, R87, R137, R138, R161, R162) -/

namespace Sys2Proof.Machine

variable {s t u v : State} {o : Order} {ps : List EditPart}

/-! ### The plan -/

theorem lengthAltered_rd8 (bs : List Byte) (i : Nat) :
    lengthAltered (rd8 bs i) = (bs.getD i 0 = 1 || decide (25 ≤ (bs.getD i 0).toNat)) := by
  have h1 : (bs.getD i 0).toNat = 1 ↔ bs.getD i 0 = 1 := BitVec.toNat_inj (y := 1#8)
  exact congrArg (· || decide (25 ≤ (bs.getD i 0).toNat)) (decide_eq_decide.mpr h1)

theorem alteredLengths_eq (bs : List Byte) :
    alteredLengths bs =
      (List.range 100).countP (fun i => (bs.getD i 0) = 1 || decide (25 ≤ (bs.getD i 0).toNat)) := by
  rw [alteredLengths, ← List.countP_eq_length_filter]
  exact congrArg (List.countP · _) (funext fun i => lengthAltered_rd8 bs i)

theorem Plan.usedEarly_eq (p : Plan) : p.usedEarly = p.early.countP Option.isSome :=
  List.countP_eq_length_filter.symm

/-- The last part of the plan read: the copy is replaced, and the order completes (R87, R137). -/
theorem State.planPart_of_last {lengths early data : List Byte} (hp : s.executor.phase = .executing o (.plan lengths early))
    (hl : lengths.length = 100) (he : early.length + data.length = 192) :
    s.planPart o lengths early data =
      State.atPhase { s with plan := parsePlan lengths (early ++ data) } (.writeResult o
        ⟨resultOk, resultData [byteField 0x05 (parsePlan lengths (early ++ data)).usedEarly,
          byteField 0x06 (alteredLengths lengths)]⟩) := by
  have hj : joinPlan lengths early data = (lengths, early ++ data) := if_neg (by rw [hl]; decide)
  have hr : planRead (lengths, early ++ data) = true := by
    simp [planRead, hl, he, Config.planLengthSize, Config.earlySize]
  unfold State.planPart
  rw [hj]
  dsimp only
  rw [if_pos hr]
  exact State.completeOrder_executing (s := { s with plan := parsePlan lengths (early ++ data) }) hp _

/-! ### The settings -/

theorem clamp_eq {lo hi : Nat} (h : lo ≤ hi) (x : Nat) : clamp lo hi x = max lo (min hi x) := by
  unfold clamp
  split
  · omega
  · split <;> omega

theorem clampAbsolute_eq (x : Nat) : clampAbsolute x = min 1000 x := by
  unfold clampAbsolute
  split <;> omega

theorem rd8_le (bs : List Byte) (i : Nat) : rd8 bs i ≤ 255 := Nat.le_of_lt_succ (bs.getD i 0#8).isLt

/-- The settings of a region, each field with its range (R138). -/
theorem parseSettings_eq (n : Nat) (bs : List Byte) : parseSettings n bs =
    { batchCount := max 1 (min 32 (rd8 bs 0x20))
      batchDelay := max 1 (rd8 bs 0x21)
      batchAbsolute := min 1000 (rd16 bs 0x22)
      roomThreshold := min (n - 1) (rd16 bs 0x24)
      orderPoll := max 1 (min 1000 (rd16 bs 0x26))
      weightPriority := max 1 (min 15 (rd8 bs 0x28))
      weightRoutine := max 1 (min 15 (rd8 bs 0x29))
      receiversEnabled := min 8 (rd8 bs 0x2A)
      toneFloor := max 1 (min (2 ^ 40 - 1) (rd64 bs 0x30)) } := by
  rw [parseSettings, clamp_eq (by decide), clamp_eq (by decide), clamp_eq (Nat.zero_le _), clamp_eq (by decide),
    clamp_eq (by decide), clamp_eq (by decide), clamp_eq (by decide), clamp_eq (by decide), clampAbsolute_eq,
    min_eq_right (rd8_le bs 0x21), Nat.zero_max, Nat.zero_max]

/-! ### The enabled count (R74) -/

/-- A receiver as an enabled count of `n` asks for. -/
def Receiver.suits (n : Nat) (r : RxNo) (rx : Receiver) : Prop :=
  (n ≤ r.val → rx.state ≠ .free) ∧ (r.val < n → rx.state ≠ .disabled)

theorem State.handOver_suits {n : Nat} {r : RxNo} (h : (s.receiver r).suits n r) :
    ((s.handOver r).receiver r).suits n r := by
  unfold State.handOver
  split
  · exact h
  · rw [State.attach_receiver_self]
    exact ⟨fun _ => nofun, fun _ => nofun⟩

theorem State.recount_suits (n : Nat) (r : RxNo) : ((State.recount n s r).receiver r).suits n r := by
  unfold State.recount
  dsimp only
  split
  · rename_i hn
    refine ⟨fun _ => ?_, fun h => absurd h (by omega)⟩
    split
    · rw [State.receiver_setReceiver_self]
      nofun
    · rename_i h
      rw [State.receiver_setReceiver_self]
      simp [h]
    · rename_i h
      simp [h]
  · rename_i hn
    have hlt : r.val < n := by omega
    split
    · refine State.handOver_suits ⟨fun h => absurd h hn, fun _ => ?_⟩
      rw [State.receiver_setReceiver_self]
      nofun
    · rename_i h
      refine ⟨fun h => absurd h hn, fun _ => ?_⟩
      rw [State.receiver_setReceiver_self]
      simp [h]
    · rename_i h
      exact ⟨fun h => absurd h hn, fun _ => by simp [h]⟩

theorem State.recount_receiver_other {n : Nat} {r q : RxNo} (hq : q ≠ r) :
    (State.recount n s r).receiver q = s.receiver q := by
  have hset : ∀ x, (s.setReceiver r x).receiver q = s.receiver q := fun x =>
    (State.receiver_setReceiver ..).trans (if_neg hq)
  unfold State.recount
  dsimp only
  repeat' split
  · exact hset _
  · exact hset _
  · rfl
  · rw [State.handOver_receiver_other hq]
    exact hset _
  · exact hset _
  · rfl

theorem State.recounts_suit {n : Nat} {r : RxNo} :
    ∀ (rs : List RxNo) (s : State), r ∈ rs ∨ (s.receiver r).suits n r →
      ((rs.foldl (State.recount n) s).receiver r).suits n r
  | [], _, h => h.resolve_left List.not_mem_nil
  | q :: rs, s, h => by
    refine State.recounts_suit rs _ ?_
    by_cases hq : r = q
    · exact .inr (hq ▸ State.recount_suits n r)
    · rw [State.recount_receiver_other hq]
      exact h.imp_left fun hm => (List.mem_cons.mp hm).resolve_left hq

theorem State.changeEnabled_suits (s : State) (n : Nat) (r : RxNo) : ((s.changeEnabled n).receiver r).suits n r :=
  State.recounts_suit allRx _ (.inl (mem_allRx r))

theorem Edits.recount (h : Edits ps s t) (hp : .pool ∈ ps) (n : Nat) (r : RxNo) : Edits ps s (State.recount n t r) := by
  unfold State.recount
  dsimp only
  repeat' split
  · exact h.setReceiver hp ..
  · exact h.setReceiver hp ..
  · exact h
  · exact (h.setReceiver hp ..).handOver hp r
  · exact h.setReceiver hp ..
  · exact h

theorem Within.recount (s : State) (n : Nat) (r : RxNo) : Within s (State.recount n s r) := by
  unfold State.recount
  dsimp only
  repeat' split
  · exact .setReceiver ..
  · exact .setReceiver ..
  · exact .refl s
  · exact (Within.setReceiver ..).trans (.handOver ..)
  · exact .setReceiver ..
  · exact .refl s

theorem Edits.recounts (h : Edits ps s t) (hp : .pool ∈ ps) (n : Nat) (rs : List RxNo) :
    Edits ps s (rs.foldl (State.recount n) t) := by
  induction rs generalizing t with
  | nil => exact h
  | cons r rs ih => exact ih (h.recount hp n r)

theorem Within.recounts (n : Nat) (rs : List RxNo) (s : State) : Within s (rs.foldl (State.recount n) s) := by
  induction rs generalizing s with
  | nil => exact .refl s
  | cons r rs ih => exact (Within.recount s n r).trans (ih _)

theorem Edits.enabledCount (h : Edits ps s t) : t.pool.enabledCount = s.pool.enabledCount := by
  induction h with
  | refl => rfl
  | setLine _ L x k ih => exact ih
  | setReceiver _ hp r x ih => exact ih
  | setQueue _ hp q ih => exact ih
  | markUntimed _ K ih => exact ih
  | stage _ hj l b v ih => rw [State.stage_pool, ih]

/-- The enabled count set to `n`, with the receivers dealt with if it is new (R74). -/
def State.withEnabled (s : State) (n : Nat) : State := if n = s.pool.enabledCount then s else s.changeEnabled n

theorem Within.withEnabled (s : State) (n : Nat) : Within s (s.withEnabled n) := by
  unfold State.withEnabled
  split
  · exact .refl s
  · have hn : Within s { s with pool := { s.pool with enabledCount := n } } :=
      ⟨rfl, rfl, rfl, rfl, rfl, rfl, rfl, rfl, rfl, rfl, rfl, rfl, rfl, rfl, rfl, ⟨[], by simp⟩, id⟩
    exact hn.trans (.recounts n allRx _)

theorem State.changeEnabled_edits (s : State) (n : Nat) :
    Edits [.pool] { s with pool := { s.pool with enabledCount := n } } (s.changeEnabled n) :=
  Edits.refl.recounts (by decide) n allRx

theorem State.withEnabled_journal (s : State) (n : Nat) :
    (s.withEnabled n).journal = { s.journal with dirty := (s.withEnabled n).journal.dirty } := by
  unfold State.withEnabled
  split
  · rfl
  · exact (s.changeEnabled_edits n).journal (by decide)

theorem State.withEnabled_count (s : State) (n : Nat) : (s.withEnabled n).pool.enabledCount = n := by
  unfold State.withEnabled
  split
  · exact Eq.symm ‹_›
  · exact (s.changeEnabled_edits n).enabledCount

theorem State.withEnabled_suits {n : Nat} (h : s.pool.enabledCount ≠ n) (r : RxNo) :
    ((s.withEnabled n).receiver r).suits n r := by
  rw [State.withEnabled, if_neg (Ne.symm h)]
  exact s.changeEnabled_suits n r

/-! ### The settings applied -/

/-- The settings replaced, with what that does to the batch absolute timer and to a room check (R138, R162, R166). -/
def State.withSettings (s : State) (st : Settings) : State :=
  { s with settings := st, journal := (s.journal.stopAbsolute st.batchAbsolute).dropRoomRead st.roomThreshold }

theorem State.applySettings_eq (s : State) (bs : List Byte) :
    s.applySettings bs =
      let st := parseSettings s.geometry.journalLength bs
      let v := (s.withSettings st).withEnabled st.receiversEnabled
      if st.batchCount ≤ v.journal.queue.length then v.trigger else v := rfl

theorem Stages.withSettings (s : State) (st : Settings) : Stages s (s.withSettings st) := by
  have ha : s.journal.stopAbsolute st.batchAbsolute =
      { s.journal with absolute := (s.journal.stopAbsolute st.batchAbsolute).absolute } := by
    unfold Journal.stopAbsolute
    split <;> rfl
  have hd : (s.withSettings st).journal = (s.journal.stopAbsolute st.batchAbsolute).dropRoomRead st.roomThreshold := rfl
  rcases (s.journal.stopAbsolute st.batchAbsolute).dropRoomRead_cases st.roomThreshold with e | ⟨k, a, w, -, -, e⟩
  · rw [e, ha] at hd
    exact .of_journal (by rw [hd]) (by rw [hd]) (by rw [hd]) (by rw [hd]) (by rw [hd]) (by rw [hd]; exact id)
      (by rw [hd]; exact id)
  · rw [e, ha] at hd
    exact .of_journal (by rw [hd]) (by rw [hd]) (by rw [hd]) (by rw [hd]) (by rw [hd]) (by rw [hd]; nofun)
      (by rw [hd]; exact id)

theorem Stages.withEnabled (s : State) (n : Nat) : Stages s (s.withEnabled n) := by
  have hj := s.withEnabled_journal n
  exact .of_journal (by rw [hj]) (by rw [hj]) (by rw [hj]) (by rw [hj]) (by rw [hj]) (by rw [hj]; exact id)
    (by rw [hj]; exact id)

theorem State.withSettings_queue (s : State) (st : Settings) : (s.withSettings st).journal.queue = s.journal.queue :=
  (Journal.dropRoomRead_frame ..).1.trans (Journal.stopAbsolute_frame ..).1

theorem State.withSettings_absolute {st : Settings} (h : st.batchAbsolute = 0) :
    (s.withSettings st).journal.absolute.timer.running = false := by
  have hs : (s.journal.stopAbsolute st.batchAbsolute).absolute.timer.running = false := by
    rw [Journal.stopAbsolute, if_pos h]
    rfl
  show ((s.journal.stopAbsolute st.batchAbsolute).dropRoomRead st.roomThreshold).absolute.timer.running = false
  rcases (s.journal.stopAbsolute st.batchAbsolute).dropRoomRead_cases st.roomThreshold with e | ⟨k, a, w, -, -, e⟩ <;>
    rw [e] <;> exact hs

/-- `w` comes from `s` by the settings `st` (R74, R138, R162). -/
structure Applied (s : State) (st : Settings) (w : State) : Prop where
  settings : w.settings = st
  plan : w.plan = s.plan
  geometry : w.geometry = s.geometry
  executor : w.executor = s.executor
  run : w.run = s.run
  queue : w.journal.queue = s.journal.queue
  count : w.pool.enabledCount = st.receiversEnabled
  suits : s.pool.enabledCount ≠ st.receiversEnabled → ∀ r, (w.receiver r).suits st.receiversEnabled r
  absolute : st.batchAbsolute = 0 → w.journal.absolute.timer.running = false

theorem Applied.withEnabled (s : State) (st : Settings) :
    Applied s st ((s.withSettings st).withEnabled st.receiversEnabled) := by
  have hw := Within.withEnabled (s.withSettings st) st.receiversEnabled
  have hj := (s.withSettings st).withEnabled_journal st.receiversEnabled
  exact {
    settings := hw.settings
    plan := hw.plan
    geometry := hw.geometry
    executor := hw.executor
    run := hw.run
    queue := (congrArg Journal.queue hj).trans (s.withSettings_queue st)
    count := State.withEnabled_count ..
    suits := fun h => State.withEnabled_suits (s := s.withSettings st) h
    absolute := fun h => by
      rw [hj]
      exact State.withSettings_absolute h }

theorem State.trigger_absolute (h : s.journal.absolute.timer.running = false) :
    s.trigger.journal.absolute.timer.running = false := by
  rcases s.trigger_cases with ⟨_, e⟩ | ⟨_, _, _, e⟩ | ⟨_, _, e⟩ <;> rw [e]
  · exact h
  · rfl
  · exact h

theorem Applied.trigger {st : Settings} (h : Applied s st t) : Applied s st t.trigger :=
  have hw := Within.trigger t
  { settings := hw.settings.trans h.settings
    plan := hw.plan.trans h.plan
    geometry := hw.geometry.trans h.geometry
    executor := hw.executor.trans h.executor
    run := hw.run.trans h.run
    queue := t.trigger_queue.trans h.queue
    count := by rw [State.trigger_pool, h.count]
    suits := fun hn r => by
      rw [State.receiver_of_pool t.trigger_pool]
      exact h.suits hn r
    absolute := fun h0 => State.trigger_absolute (h.absolute h0) }

theorem State.applySettings_applied (s : State) (bs : List Byte) :
    Applied s (parseSettings s.geometry.journalLength bs) (s.applySettings bs) := by
  rw [State.applySettings_eq]
  dsimp only
  split
  · exact (Applied.withEnabled ..).trigger
  · exact .withEnabled ..

/-- A batch_count at or below the staged records is a trigger (R161). -/
theorem State.applySettings_triggers {bs : List Byte}
    (hb : (parseSettings s.geometry.journalLength bs).batchCount ≤ s.journal.queue.length)
    (ht : Stages (s.applySettings bs) t) : s.triggerTaken t := by
  have ha := Applied.withEnabled s (parseSettings s.geometry.journalLength bs)
  rw [State.applySettings_eq] at ht
  dsimp only at ht
  rw [if_pos (by rw [ha.queue]; exact hb)] at ht
  exact triggerTaken_of_trigger ((Stages.withSettings ..).trans (.withEnabled ..)) (congrArg RunControl.control ha.run) ht

/-- The last part of the settings read: all fields applied, and the order completed (R138). -/
theorem State.settingsPart_of_last {bytes data : List Byte} (hp : s.executor.phase = .executing o (.settings bytes))
    (hl : bytes.length + data.length = 256) :
    s.settingsPart o bytes data = (s.applySettings (bytes ++ data)).atPhase (.writeResult o
      ⟨resultOk, oneByteData (settingsClamped s.geometry.journalLength (bytes ++ data))⟩) := by
  have hx := (congrArg Executor.phase (s.applySettings_applied (bytes ++ data)).executor).trans hp
  unfold State.settingsPart
  dsimp only
  rw [if_pos (by simp [hl, Config.settingsSize]), State.completeOrder_executing hx]

theorem Stages.atPhase (s : State) (p : ExecPhase) : Stages s (s.atPhase p) :=
  .of_journal rfl rfl rfl rfl rfl id id

/-! ### The orders -/

theorem State.carryOut_reloadPlan (hk : o.kind = some .reloadPlan) :
    u.carryOut o = u.atPhase (.executing o (.plan [] [])) := by
  simp only [State.carryOut, hk]

theorem State.carryOut_reloadSettings (hk : o.kind = some .reloadSettings) :
    u.carryOut o = u.atPhase (.executing o (.settings [])) := by
  simp only [State.carryOut, hk]

/-- Settles O53: the reads begin, and the last of them replaces the copy. -/
theorem planAndSettingsReplacedWhenRead : Obligations.PlanAndSettingsReplacedWhenRead := by
  refine ⟨fun s o data ht hk => ?_, fun s a data o lengths early hf hu hw hd hp hl he => ?_,
    fun s o data ht hk => ?_, fun s a data o bytes hf hu hw hd hp hl => ?_⟩
  · obtain ⟨u, hv, hr⟩ := State.resumes_taking ht data
    rw [State.carryOut_reloadPlan hk] at hr
    refine ⟨_, State.orderRow_of_due (by rw [State.takes_of_taking ht hk]; rfl) data, ?_, ?_, ?_⟩
    · rw [hr.executor nofun]
      rfl
    · rw [hr.plan, hv.rest]
      rfl
    · rw [hr.lines, hv.rest]
      rfl
  · obtain ⟨r, hr, -⟩ := State.resumes_workRead hf hu hd hp
    rw [State.workRead, State.planPart_of_last (s := s.setRun r) hp hl he] at hr
    have hplan := hr.plan
    refine ⟨_, State.orderRow_of_due (by rw [State.reading_eq hf hu hw hp]; exact Bool.or_true _) data, hplan, ?_,
      hr.lines, hr.pool, hr.settings⟩
    rw [hr.executor nofun, hplan, ← alteredLengths_eq, ← Plan.usedEarly_eq]
    rfl
  · obtain ⟨u, hv, hr⟩ := State.resumes_taking ht data
    rw [State.carryOut_reloadSettings hk] at hr
    refine ⟨_, State.orderRow_of_due (by rw [State.takes_of_taking ht hk]; rfl) data, ?_, ?_, ?_⟩
    · rw [hr.executor nofun]
      rfl
    · rw [hr.settings, hv.rest]
      rfl
    · rw [hr.lines, hv.rest]
      rfl
  · obtain ⟨r, hr, hrun⟩ := State.resumes_workRead hf hu hd hp
    rw [State.workRead, State.settingsPart_of_last (s := s.setRun r) hp hl] at hr hrun
    have ha := (s.setRun r).applySettings_applied (bytes ++ data)
    have hsettings := hr.settings.trans ha.settings
    have hrx : ∀ q, (s.accessDone data).receiver q = ((s.setRun r).applySettings (bytes ++ data)).receiver q :=
      State.receiver_of_pool hr.pool
    refine ⟨_, State.orderRow_of_due (by rw [State.reading_eq hf hu hw hp]; exact Bool.or_true _) data,
      hsettings.trans (parseSettings_eq ..), ?_, ?_, ?_, ?_, hr.queue.trans ha.queue, ?_, hr.geometry.trans ha.geometry,
      hr.plan.trans ha.plan⟩
    · rw [hr.pool, hsettings]
      exact ha.count
    · rw [hsettings]
      intro hn q
      rw [hrx]
      exact ha.suits hn q
    · rw [hsettings]
      exact fun h0 => hr.absolute (ha.absolute h0)
    · rw [hsettings]
      intro hb hc
      obtain ⟨hrc, hst⟩ := hrun hc
      have htr := State.applySettings_triggers (s := s.setRun r) hb ((Stages.atPhase ..).trans hst)
      unfold State.triggerTaken at htr ⊢
      rwa [show (s.setRun r).run.control = s.run.control from hrc.trans hc.symm] at htr
    · rw [hr.executor nofun]
      rfl

end Sys2Proof.Machine

/-! ## An interdigit timeout at a sample (R70, R88, R94, R97, R98) -/

namespace Sys2Proof.Machine

variable {s : State} {L : LineNo}

/-! ### The collector at a sample of a line that stays in its call -/

/-- A line in its call is not ON_HOOK, so its baseline is left alone, and with its train closed the decoder has nothing
to do (R36, R44). -/
theorem State.beforeCollector_of_staysInCall {x : Sample} (hstay : (s.line L).staysInCall x = true) (c : Conditioned) :
    ((s.hookOf L x).1.baselineStep L c x.i).1.decoderStep L (s.hookOf L x).2.outcome x.elapsed.val =
      ((s.hookOf L x).1, {}) := by
  obtain ⟨kh, hhook, hout, -⟩ := State.hookOf_of_staysInCall hstay
  have hne : ((s.hookOf L x).1.line L).sup.hook ≠ .onHook := by
    rw [hhook]
    rcases (s.line L).hookInCall_cases x with h | h <;> rw [h] <;> nofun
  have hclosed : ((s.hookOf L x).1.line L).dec.trainOpen = false := by
    rw [(kh.line L).dec (by decide), State.beforeHook_line]
    exact Line.staysInCall_trainOpen (ln := s.line L) hstay
  rw [State.baselineStep_of_not_onHook hne, State.decoderStep_of_closed hclosed hout]

/-- The collector takes such a sample right after the Supervision Engine, without a digit: the pool's step finds what it
leaves, and the report holds what it made of the sample. -/
theorem State.collector_of_staysInCall {x : Sample} {r : State × CollResult}
    (hstay : (s.line L).staysInCall x = true)
    (hr : (s.hookOf L x).1.collectorStep L x.elapsed.val false none = r) :
    s.atPool L x = r.1.parkIf L r.2.park ∧ (s.takeSample L x).2.coll = r.2 := by
  have hbefore := State.beforeCollector_of_staysInCall hstay ((s.line L).conditioned x)
  obtain ⟨-, -, -, hopen⟩ := State.hookOf_of_staysInCall hstay
  rw [State.takeSample_of_taken x (Line.staysInCall_discards hstay)]
  simp only [State.atPool, State.afterHook, hbefore, hopen, hr, and_self]

/-! ### The timeout -/

theorem Timer.advance_not_reached {t : Timer} (h : t.running = false) (e limit : Nat) :
    (t.advance e).reached limit = false := by
  simp [Timer.advance, Timer.reached, h]

/-- The collector at a sample that brings the interdigit timer to its limit, the first-digit timer stopped (R98). -/
theorem State.collectorStep_interdigit {e : Nat} (hc : (s.line L).coll.state = .collecting)
    (hf : (s.line L).coll.firstDigit.running = false)
    (ht : ((s.line L).coll.interdigit.advance e).reached (1000 * (s.line L).profile.interdigitTimeout) = true) :
    s.collectorStep L e false none =
      ((s.setColl L ((s.line L).coll.advance e false)).complete L .timeout none false,
        { interdigitTimeout := true }) := by
  simp [State.collectorStep, State.collTimeouts, Collection.advance, hc, ht, Timer.advance_not_reached hf]

theorem Collection.advance_resumed (c : Collection) (e : Nat) (o : Bool) : (c.advance e o).resumed = c.resumed := by
  unfold Collection.advance
  split <;> rfl

/-- After the NUMBER of a completion its line is finished and released, and nothing more is staged (R94). -/
theorem Edits.afterNumber (s : State) (L : LineNo) (r : NumberReason) (i : Option Nat) (v : Bool) :
    Edits [.coll, .pool] (s.stage (some L) (.number (s.line L).coll.string r i (s.line L).coll.resumed) v)
      (s.complete L r i v) :=
  Edits.finishCollection ..

/-- A completion leaves its line without receiver and place (R70, R94). -/
theorem State.complete_not_served (hs : s.poolSound) (r : NumberReason) (i : Option Nat) (v : Bool) :
    (s.complete L r i v).served L = false :=
  State.release_not_served (State.poolSound_of_pool (s := s) (State.stage_pool ..) hs)

/-! ### The sample -/

/-- A line that its sample leaves without receiver and place before the pool's step stays without (R72). -/
theorem State.takeSample_not_served {x : Sample} (hstay : (s.line L).staysInCall x = true)
    (hx : sampleHigh x = false) (h : (s.atPool L x).served L = false) : (s.takeSample L x).1.served L = false := by
  rw [State.served_of_pool ((Edits.afterPool_of_staysInCall hstay hx).pool (by decide)), State.poolOf,
    State.poolStep_of_not_served h, h]

/-- After the collector such a sample, if it is not high, leaves the collection and the hook state alone. -/
theorem Edits.afterCollector_of_staysInCall {x : Sample} (hstay : (s.line L).staysInCall x = true)
    (hx : sampleHigh x = false) : Edits [.pool, .fault, .stage] (s.atPool L x) (s.takeSample L x).1 :=
  (Edits.refl.poolStep (by decide) (by decide) ..).trans
    ((Edits.afterPool_of_staysInCall hstay hx).mono (by decide))

/-- A sample at which the interdigit timer of a line expires, cut at the completion. -/
theorem State.atPool_of_interdigit {x : Sample} (hstay : (s.line L).staysInCall x = true)
    (hc : (s.line L).coll.state = .collecting) (hf : (s.line L).coll.firstDigit.running = false)
    (hr : (s.line L).coll.interdigit.running = true)
    (ht : 1000 * (s.line L).profile.interdigitTimeout ≤
      min 65535 ((s.line L).coll.interdigit.value + x.elapsed.val)) :
    ∃ v, Edits [.sup, .coll] (s.beforeHook L x) v ∧
      v.line L = { (s.hookOf L x).1.line L with coll := (s.line L).coll.advance x.elapsed.val false } ∧
      s.atPool L x = v.complete L .timeout none false ∧
      (s.takeSample L x).2.coll.interdigitTimeout = true := by
  obtain ⟨kh, -⟩ := State.hookOf_of_staysInCall hstay
  have hcoll : ((s.hookOf L x).1.line L).coll = (s.line L).coll := by
    rw [(kh.line L).coll (by decide), State.beforeHook_line]
  have hprofile : ((s.hookOf L x).1.line L).profile = (s.line L).profile := by
    rw [(kh.line L).profile, State.beforeHook_line]
  have hstep := State.collectorStep_interdigit (s := (s.hookOf L x).1) (L := L) (e := x.elapsed.val)
    (by rw [hcoll]; exact hc) (by rw [hcoll]; exact hf)
    (by rw [hcoll, hprofile]; exact Timer.advance_reached hr ht)
  obtain ⟨hpool, hreport⟩ := State.collector_of_staysInCall hstay hstep
  refine ⟨_, (kh.mono (by decide)).setColl (L := L) (by decide) _, ?_, hpool, by rw [hreport]⟩
  rw [State.line_setColl_self, hcoll]

theorem exec_interdigitTimeout_of_reported {x : Sample} (ha : s.sampleArrives L x = true)
    (h : (s.takeSample L x).2.coll.interdigitTimeout = true) :
    exec (.interdigitTimeout L x) s = .next (s.takeSample L x).1.settle := by
  change s.sampleRow L x (fun r => r.coll.interdigitTimeout) = _
  simp [State.sampleRow, ha, h]

/-- Settles O23: the sample is the completion, and the later blocks of the sample leave its collection alone. -/
theorem interdigitTimeoutCompletesTheNumber : Obligations.InterdigitTimeoutCompletesTheNumber := by
  intro s L x ha hstay hx hc hf hr ht
  obtain ⟨v, kv, hv, hpool, hreport⟩ := State.atPool_of_interdigit hstay hc hf hr ht
  obtain ⟨-, hhook, -⟩ := State.hookOf_of_staysInCall hstay
  have klast := Edits.afterCollector_of_staysInCall hstay hx
  have kcomplete : Edits [.coll, .pool, .stage] v (v.complete L .timeout none false) :=
    Edits.refl.complete (by decide) (by decide) (by decide) ..
  rw [hpool] at klast
  have hcoll : ((s.takeSample L x).1.line L).coll = ((s.line L).coll.advance x.elapsed.val false).finished := by
    rw [(klast.line L).coll (by decide), State.complete_coll, hv]
  refine ⟨_, exec_interdigitTimeout_of_reported ha hreport, ?_⟩
  rw [State.settle_line, hcoll]
  refine ⟨rfl, Collection.advance_string .., rfl, rfl, ?_, ?_, fun hs => ?_⟩
  · have hfirst := stagedFirst_of_beforeHook kv (by decide)
      (((Edits.afterNumber v L .timeout none false).stages.trans klast.stages).trans (.settle _))
    rwa [hv, Collection.advance_string, Collection.advance_resumed] at hfirst
  · rw [(klast.line L).hook (by decide), (kcomplete.line L).hook (by decide), hv]
    exact hhook
  · rw [State.served_of_pool (State.settle_pool _)]
    have hvs : v.poolSound := State.poolSound_of_pool (kv.pool (by decide)) hs
    exact State.takeSample_not_served hstay hx (hpool ▸ State.complete_not_served hvs ..)

end Sys2Proof.Machine

/-! ## RESUME_COLLECTION at the Digit Collector (R84, R85, R132) -/

namespace Sys2Proof.Machine

variable {s u : State} {L : LineNo} {o : Order}

/-- A resumed collection: opened anew with resumed YES, and the request that follows (R85). -/
def State.resumed (s : State) (L : LineNo) : State := (s.openCollection L true).requestIfTone L

theorem Edits.resumed (s : State) (L : LineNo) : Edits [.coll, .pool] s (s.resumed L) :=
  (Edits.refl.openCollection (by decide) true).requestIfTone (by decide)

theorem Near.resumed (s : State) (L : LineNo) : Near L s (s.resumed L) :=
  ((Near.refl L s).openCollection true).requestIfTone

/-- The collection of a resumed line is as it was opened (R84, R85). -/
theorem State.resumed_coll (s : State) (L : LineNo) :
    ((s.resumed L).line L).coll = { (s.line L).coll with
      state := .collecting, string := [], firstDigit := ⟨0, true⟩
      interdigit := (s.line L).coll.interdigit.stop, resumed := true } := by
  rw [State.resumed, ((Edits.requestIfTone_pool _ L).line L).coll (by decide), State.openCollection_line]

theorem State.resumed_sup (s : State) (L : LineNo) : ((s.resumed L).line L).sup = (s.line L).sup := by
  unfold State.resumed State.requestIfTone
  split <;> simp [State.openCollection_line]

/-- With dial_mode PULSE a resumed line asks nothing of the pool; with TONE or BOTH it holds a receiver or a place
(R67, R85). -/
theorem State.resumed_pool (s : State) (L : LineNo) :
    if (s.line L).profile.dialMode = .pulse then (s.resumed L).pool = s.pool else (s.resumed L).served L = true := by
  have hdial : ((s.openCollection L true).line L).profile = (s.line L).profile := by rw [State.openCollection_line]
  split
  · rename_i hp
    rw [State.resumed, State.requestIfTone_of_pulse (by rw [hdial]; exact hp)]
    rfl
  · rename_i hp
    rw [State.resumed, State.requestIfTone_of_tone (by rw [hdial]; exact hp)]
    exact State.request_served ..

theorem State.orderResume_of_done (h : (s.line L).sup.hook = .active ∧ (s.line L).coll.state = .done) :
    s.orderResume L = (s.resumed L).completeOrder ⟨resultOk, oneByteData CollState.done.code⟩ := by
  rw [State.orderResume, if_pos h, h.2]
  rfl

theorem State.orderResume_refused (h : ¬ ((s.line L).sup.hook = .active ∧ (s.line L).coll.state = .done)) :
    s.orderResume L = s.completeOrder ⟨resultWrongState, oneByteData (s.line L).coll.state.code⟩ := if_neg h

theorem State.carryOut_resume (hk : o.kind = some .resumeCollection) (hl : o.lineField = L.val) :
    u.carryOut o = (u.atPhase (.executing o .engine)).orderResume L := by
  simp only [State.carryOut, hk, State.onLine_of_field hl]

/-- A RESUME_COLLECTION in execution (R85, R132). -/
theorem State.exec_resume (ht : s.taking = some o) (hk : o.kind = some .resumeCollection) (hl : o.lineField = L.val) :
    ∃ u, Taking s o u ∧ u.executor.phase = .executing o .engine ∧
      ∃ t, exec (.resumeCollection L) s = .next t ∧ Answers (u.orderResume L) t := by
  obtain ⟨v, hv, ha⟩ := State.accessDone_taking ht []
  rw [State.carryOut_resume hk hl] at ha
  exact ⟨_, hv.atPhase _, rfl, _, State.orderRow_of_due (State.takesFor_of_taking ht hk hl) [], ha⟩

/-- Settles O51: in ACTIVE with a DONE collection the order opens it anew, and else it changes nothing of its line. -/
theorem resumeReopensADoneCollection : Obligations.ResumeReopensADoneCollection := by
  intro s o L ht hk hl
  obtain ⟨u, hu, hx, t, he, ha⟩ := State.exec_resume ht hk hl
  have hline : u.line L = s.line L := hu.line L
  have hupool : u.pool = s.pool := by rw [hu.rest]
  refine ⟨t, he, ?_⟩
  by_cases hd : (s.line L).sup.hook = .active ∧ (s.line L).coll.state = .done
  · rw [State.orderResume_of_done (by rwa [hline])] at ha
    obtain ⟨hlines, hpool, hphase, -, -, hqueue, -⟩ := State.accessDone_lineOrder hu hx
      ((Edits.resumed u L).mono (by decide)) (Near.resumed u L) ha
    have htone := u.resumed_pool L
    rw [hline, hupool] at htone
    rw [if_pos hd, State.line_of_lines hlines, State.resumed_coll, State.resumed_sup, hline, State.served_of_pool hpool,
      hpool]
    exact ⟨⟨rfl, rfl, rfl, rfl, rfl, rfl, htone, hphase⟩, hqueue⟩
  · rw [State.orderResume_refused (by rwa [hline])] at ha
    obtain ⟨hlines, hpool, hphase, -, -, hqueue, -⟩ := State.accessDone_lineOrder hu hx .refl (.refl L u) ha
    rw [hline] at hphase
    rw [if_neg hd, State.line_of_lines hlines]
    exact ⟨⟨hline, hpool.trans hupool, hphase⟩, hqueue⟩

end Sys2Proof.Machine

/-! ## The common state machine of the conditions at a sample (R105, R106, R110, R112 to R114, R120, R121) -/

namespace Sys2Proof.Machine

variable {s t w : State} {L : LineNo} {d : Condition} {x : Sample} {n m : Nat}

/-! ### One condition among the five -/

theorem FaultRecord.get_set (f : FaultRecord) (c d : Condition) (r : CondRecord) :
    (f.set c r).get d = if d = c then r else f.get d := by
  cases c <;> cases d <;> rfl

theorem State.storeCondition_get (s : State) (L : LineNo) (c d : Condition) (r : CondRecord) :
    ((s.storeCondition L c r).line L).fault.get d = if d = c then r else (s.line L).fault.get d := by
  rw [State.storeCondition_fault, FaultRecord.get_set]

/-- From `s` to `t` the Fault Monitor has dealt with other conditions than `d` of line `L`: it has written their records
and staged at most `n` reports. -/
structure PassesBy (n : Nat) (L : LineNo) (d : Condition) (s t : State) : Prop where
  edits : Edits [.fault, .stage] s t
  record : (t.line L).fault.get d = (s.line L).fault.get d
  adds : State.AddsAtMost n s t

theorem PassesBy.refl (L : LineNo) (d : Condition) (s : State) : PassesBy 0 L d s s := ⟨.refl, rfl, .refl s⟩

theorem PassesBy.mono (h : PassesBy n L d s t) (hm : n ≤ m) : PassesBy m L d s t := ⟨h.edits, h.record, h.adds.mono hm⟩

/-- The AC average is no record of a condition (R111). -/
theorem PassesBy.average (s : State) (L : LineNo) (d : Condition) (a : Nat) :
    PassesBy 0 L d s (s.setFault L { (s.line L).fault with a16 := a }) where
  edits := Edits.refl.setFault (by decide) _
  record := by
    rw [State.line_setFault_self]
    cases d <;> rfl
  adds := (State.AddsAtMost.refl s).edits ((Edits.refl (ps := [.fault])).setFault (by decide) _) (by decide)

theorem State.reportCondition_adds (s : State) (L : LineNo) (c : Condition) (o : CondRecord) (f : CondEffect) (k : Hook)
    (v : Nat) (b : Bool) : AddsAtMost 1 s (s.reportCondition L c o f k v b) := by
  cases f
  case none => exact (AddsAtMost.refl s).mono (Nat.zero_le 1)
  case raise => exact (AddsAtMost.refl s).stage ..
  case clear => exact (AddsAtMost.refl s).stage ..

theorem PassesBy.evalCross (h : PassesBy n L d s t) (hd : d ≠ .powerCross) (x : Sample) (k : Hook) :
    PassesBy (n + 1) L d s (t.evalCross L x k).1 where
  edits := h.edits.evalCross (by decide) (by decide) x k
  record := by
    rw [State.evalCross_eq, State.reportCondition_line, State.storeCross_fault, ← h.record]
    cases d
    case powerCross => exact absurd rfl hd
    all_goals rfl
  adds := (h.adds.edits (.storeCross ..) (by decide)).trans (State.reportCondition_adds ..)

theorem PassesBy.evalIf {c : Condition} (h : PassesBy n L d s t) (hd : d ≠ c) (b p : Bool) (e : Nat) (k : Hook)
    (v : Nat) :
    PassesBy (n + 1) L d s (t.evalIf b L c p e k v).1 := by
  refine ⟨h.edits.evalIf (by decide) (by decide) b c p e k v, ?_, ?_⟩
  all_goals
    unfold State.evalIf
    split
  · unfold State.evalCondition
    dsimp only
    rw [State.reportCondition_line, State.storeCondition_get, if_neg hd, h.record]
  · exact h.record
  · exact (h.adds.edits ((Edits.refl (ps := [.fault])).storeCondition (by decide) c _) (by decide)).trans
      (State.reportCondition_adds ..)
  · exact h.adds.mono (Nat.le_succ n)

/-! ### What the Fault Monitor finds for a condition -/

/-- Whether a condition is evaluated at a sample, whether it is present, and its measure. -/
structure Finds where
  evaluated : Bool
  present : Bool
  value : Nat

/-- What the Fault Monitor finds for each condition of the common state machine, in a hook state `k` and with `updated`
saying that the sample made a baseline update (R110, R112 to R114). -/
def Line.finds (ln : Line) (x : Sample) (c : Conditioned) (k : Hook) (updated : Bool) : Condition → Finds
  | .powerCross => ⟨false, false, 0⟩
  | .foreignDc =>
    ⟨k.evalsForeign, decide (ln.profile.dcLimit < deviation ln.profile x), deviation ln.profile x⟩
  | .acInduced =>
    let v := a16After ln.fault.a16 (voltageChange x c) / 16
    ⟨k.evalsAc, decide (ln.profile.acLimit < v), v⟩
  | .leakage => ⟨updated, decide (ln.profile.leakLimit < ln.sup.b / 16), ln.sup.b / 16⟩
  | .loopShort => ⟨true, shortPresent ln.profile k x, (rEst x).getD 0⟩

/-- The Fault Monitor deals with each condition by what it finds for it, between the conditions before it and those
behind it. -/
theorem State.faultConditions_condition (hd : d ≠ .powerCross) (s : State) (L : LineNo) (x : Sample) (c : Conditioned)
    (k : Hook) (b : Bool) :
    ∃ w, PassesBy 4 L d s w ∧
      let f := (s.line L).finds x c k b d
      let r := w.evalIf f.evaluated L d f.present x.elapsed.val k f.value
      (s.faultConditions L x c k b).2.get d = r.2 ∧ PassesBy 4 L d r.1 (s.faultConditions L x c k b).1 := by
  have h1 := (PassesBy.average s L d (a16After (s.line L).fault.a16 (voltageChange x c))).evalCross hd x k
  have behind := fun v : State => PassesBy.refl L d v
  cases d
  case powerCross => exact absurd rfl hd
  case foreignDc =>
    exact ⟨_, h1.mono (by decide), rfl,
      ((((behind _).evalIf (by decide) ..).evalIf (by decide) ..).evalIf (by decide) ..).mono (by decide)⟩
  case acInduced =>
    exact ⟨_, (h1.evalIf (by decide) ..).mono (by decide), rfl,
      (((behind _).evalIf (by decide) ..).evalIf (by decide) ..).mono (by decide)⟩
  case leakage =>
    exact ⟨_, ((h1.evalIf (by decide) ..).evalIf (by decide) ..).mono (by decide), rfl,
      ((behind _).evalIf (by decide) ..).mono (by decide)⟩
  case loopShort =>
    exact ⟨_, ((h1.evalIf (by decide) ..).evalIf (by decide) ..).evalIf (by decide) .., rfl,
      (behind _).mono (by decide)⟩

/-! ### A sample that leaves the hook state as it is -/

/-- A line that a sample leaves ON_HOOK, BLOCKED or PARKED. -/
def Line.rests (ln : Line) (x : Sample) : Prop :=
  ln.sup.hook = .onHook ∧ ln.filtered x.i = .noLoop ∨ ln.sup.hook = .blocked ∨
    ln.sup.hook = .parked ∧ ln.filtered x.i = .loop

theorem Line.rests_discards {ln : Line} (h : ln.rests x) : ln.sup.hook.discards = false := by
  rcases h with ⟨h, -⟩ | h | ⟨h, -⟩ <;> rw [h] <;> rfl

/-- The Supervision Engine's step of such a sample keeps the hook state (R18 to R20, R28). -/
theorem State.hookOf_of_rests (h : (s.line L).rests x) :
    Edits [.sup] (s.beforeHook L x) (s.hookOf L x).1 ∧
      ((s.hookOf L x).1.line L).sup.hook = (s.line L).sup.hook := by
  have hb : ((s.beforeHook L x).line L).sup.hook = (s.line L).sup.hook := by rw [State.beforeHook_line]
  have hcond : ((s.line L).conditioned x).filtered = (s.line L).filtered x.i := rfl
  unfold State.hookOf
  rw [hcond]
  rcases h with ⟨hh, hf⟩ | hh | ⟨hh, hf⟩
  · have e : (s.beforeHook L x).hookStep L x .noLoop = ((s.beforeHook L x).clearStartMark L, {}) := by
      simp [State.hookStep, hb, hh]
    rw [hf, e]
    refine ⟨Edits.refl.clearStartMark (by decide), ?_⟩
    rw [State.clearStartMark, State.line_setSup_self]
    exact hb
  · rw [State.hookStep_of_not_working (by rw [hb, hh]; rfl)]
    exact ⟨.refl, hb⟩
  · have e : (s.beforeHook L x).hookStep L x .loop = (s.beforeHook L x, {}) := by
      simp [State.hookStep, hb, hh]
    rw [hf, e]
    exact ⟨.refl, hb⟩

/-- The baseline step of a sample, and whether it made an update (R36, R37). -/
def State.baselined (s : State) (L : LineNo) (x : Sample) : State × Bool :=
  (s.hookOf L x).1.baselineStep L ((s.line L).conditioned x) x.i

/-- From the baseline step to the Fault Monitor nothing writes baseline or thresholds. -/
theorem Edits.afterBaseline (s : State) (L : LineNo) (x : Sample) :
    Edits [.sup, .dec, .coll, .pool, .stage] (s.baselined L x).1 (s.atFaults L x) :=
  (((Edits.refl.decoderStep (by decide) (by decide) ..).collectorStep (by decide) (by decide) (by decide) ..).parkIf
    (by decide) (by decide) (by decide) (by decide) _).poolStep (by decide) (by decide) ..

theorem State.baselined_hook (h : (s.line L).rests x) :
    ((s.baselined L x).1.line L).sup.hook = (s.line L).sup.hook := by
  have k : Edits [.base] (s.hookOf L x).1 (s.baselined L x).1 := Edits.refl.baselineStep (by decide) ..
  rw [(k.line L).hook (by decide), (State.hookOf_of_rests h).2]

theorem baselineAfter_congr {a b : Supervision} (hb : a.b = b.b) (hs : a.seeded = b.seeded) (k : Nat) (i : Int) :
    baselineAfter a k i = baselineAfter b k i := by
  unfold baselineAfter
  rw [hb, hs]

/-- A sample that qualifies makes its baseline update, and the Fault Monitor finds the baseline that it gives (R36, R37,
R113). -/
theorem State.atFaults_baseline (hh : (s.line L).sup.hook = .onHook) (hf : (s.line L).filtered x.i = .noLoop)
    (hr : (s.line L).raw x.i = .noLoop) (hdc : (s.line L).fault.foreignDc.state = .clear)
    (hac : (s.line L).fault.acInduced.state = .clear) :
    (s.baselined L x).2 = true ∧
      ((s.atFaults L x).line L).sup.b = baselineAfter (s.line L).sup (s.line L).profile.k x.i := by
  obtain ⟨k, hook⟩ := State.hookOf_of_rests (s := s) (L := L) (x := x) (.inl ⟨hh, hf⟩)
  have l := k.line L
  rw [State.beforeHook_line] at l
  have hprofile : ((s.hookOf L x).1.line L).profile = (s.line L).profile := l.profile
  obtain ⟨hb, hseeded, -, -⟩ := l.base (by decide)
  have hq : ((s.hookOf L x).1.line L).qualifies ((s.line L).conditioned x) = true := by
    have hcf : ((s.line L).conditioned x).filtered = .noLoop := hf
    have hcr : ((s.line L).conditioned x).raw = .noLoop := hr
    simp [Line.qualifies, hook, l.fault (by decide), hh, hcf, hcr, hdc, hac]
  have hstep : s.baselined L x = ((s.hookOf L x).1.setBaseline L
      (baselineAfter (s.line L).sup (s.line L).profile.k x.i) true, true) := by
    rw [State.baselined, State.baselineStep, if_pos hq, hprofile, baselineAfter_congr (b := (s.line L).sup) hb hseeded]
  have hbase := ((Edits.afterBaseline s L x).line L).base (by decide)
  rw [hstep] at hbase ⊢
  refine ⟨rfl, hbase.1.trans ?_⟩
  rw [State.setBaseline_line_self]
  rfl

/-! ### A condition evaluated at a sample -/

/-- The estimate of LOOP_SHORT, 0 at no current (R40, R120). -/
theorem rEst_getD (x : Sample) :
    (rEst x).getD 0 = if x.i = 0 then 0 else 5000 * (x.vt - x.vr).natAbs / x.i.natAbs := by
  unfold rEst
  split <;> rfl

/-- LOOP_SHORT is present in PARKED, with a current and the estimate below the limit (R114). -/
theorem shortPresent_eq (p : Profile) (k : Hook) (x : Sample) :
    shortPresent p k x = (decide (k = .parked) && decide (x.i ≠ 0) && decide ((rEst x).getD 0 < p.shortLimit)) := by
  unfold shortPresent rEst
  by_cases hi : x.i = 0 <;> simp [hi]

theorem Line.rests_of_evaluates {ln : Line} {p : Bool} {v : Nat} (h : ln.evaluates d x p v = true) : ln.rests x := by
  unfold Line.rests
  cases d
  case powerCross => cases h
  all_goals
    simp only [Line.evaluates, Bool.and_eq_true, Bool.or_eq_true, decide_eq_true_eq] at h
    tauto

/-- Of a condition that is evaluated the Fault Monitor finds what the statement says of it. -/
theorem State.finds_of_evaluates {p : Bool} {v : Nat} (h : (s.line L).evaluates d x p v = true) :
    ((s.atFaults L x).line L).finds x ((s.line L).conditioned x) (s.line L).sup.hook (s.baselined L x).2 d =
      ⟨true, p, v⟩ := by
  have hrests := Line.rests_of_evaluates h
  have hprofile : ((s.atFaults L x).line L).profile = (s.line L).profile := by
    rw [((Edits.atFaults s L x).line L).profile, State.beforeHook_line]
  cases d
  case powerCross => cases h
  case foreignDc =>
    simp only [Line.evaluates, Bool.and_eq_true, Bool.or_eq_true, decide_eq_true_eq] at h
    obtain ⟨⟨hh, rfl⟩, rfl⟩ := h
    have hev : (s.line L).sup.hook.evalsForeign = true := by
      rcases hh with ⟨hh, -⟩ | hh <;> rw [hh] <;> rfl
    simp only [Line.finds, hprofile, hev]
    rfl
  case acInduced =>
    simp only [Line.evaluates, Bool.and_eq_true, Bool.or_eq_true, decide_eq_true_eq] at h
    obtain ⟨⟨-, rfl⟩, rfl⟩ := h
    have hev : (s.line L).sup.hook.evalsAc = true := by
      rcases hrests with ⟨hh, -⟩ | hh | ⟨hh, -⟩ <;> rw [hh] <;> rfl
    simp only [Line.finds, hprofile, hev, State.atFaults_fault]
  case leakage =>
    simp only [Line.evaluates, Bool.and_eq_true, decide_eq_true_eq] at h
    obtain ⟨⟨⟨⟨⟨⟨hh, hf⟩, hr⟩, hdc⟩, hac⟩, rfl⟩, rfl⟩ := h
    obtain ⟨hmade, hb⟩ := State.atFaults_baseline hh hf hr hdc hac
    simp only [Line.finds, hprofile, hmade, hb]
  case loopShort =>
    simp only [Line.evaluates, Bool.and_eq_true, Bool.or_eq_true, decide_eq_true_eq] at h
    obtain ⟨⟨-, rfl⟩, rfl⟩ := h
    have hparked : (decide ((s.line L).sup.hook = .parked) && decide ((s.line L).filtered x.i = .loop)) =
        decide ((s.line L).sup.hook = .parked) := by
      rcases hrests with ⟨hh, -⟩ | hh | ⟨hh, hf⟩
      · rw [hh]; rfl
      · rw [hh]; rfl
      · rw [hh, hf]; rfl
    simp only [Line.finds, hprofile, shortPresent_eq, rEst_getD, hparked]

theorem Line.evaluates_ne_powerCross {ln : Line} {p : Bool} {v : Nat} (h : ln.evaluates d x p v = true) :
    d ≠ .powerCross := by
  rintro rfl
  cases h

/-- A sample that leaves the hook state ends with the Fault Monitor, which finds that hook state, and its GUARD request
(R105). -/
theorem State.takeSample_of_rests (h : (s.line L).rests x) :
    let z := (s.atFaults L x).faultConditions L x ((s.line L).conditioned x) (s.line L).sup.hook (s.baselined L x).2
    (s.takeSample L x).2.fault = z.2 ∧ (s.takeSample L x).1 = z.1.guardRequest L z.2.guard := by
  rw [State.takeSample_of_taken x (Line.rests_discards h), ← State.baselined_hook h]
  exact ⟨rfl, rfl⟩

/-- What the step of a condition leaves at the end of a sample that evaluates it: its effect, its record as the step
gives it, and, with room for the records of the sample, its report. -/
theorem State.takeSample_condition {p : Bool} {v : Nat} {r : CondRecord} {f : CondEffect} {b : RecordBody}
    (h : (s.line L).evaluates d x p v = true)
    (hstep : (((s.line L).fault.get d).advance x.elapsed.val).stepWith p (100 * (s.line L).profile.dcConfirm)
      (100 * (s.line L).profile.clearTime) s.time = (r, f))
    (hreport : ∀ u : State, u.reportCondition L d ((s.line L).fault.get d) f (s.line L).sup.hook v false =
      u.stage (some L) b) :
    (s.takeSample L x).2.fault.get d = f ∧ ((s.takeSample L x).1.line L).fault.get d = r ∧
      (s.journal.queue.length ≤ 16 →
        (⟨some L, s.time, b⟩ : Record) ∈ (s.takeSample L x).1.settle.journal.queue) := by
  obtain ⟨w, before, hget, behind⟩ := State.faultConditions_condition (Line.evaluates_ne_powerCross h) (s.atFaults L x)
    L x ((s.line L).conditioned x) (s.line L).sup.hook (s.baselined L x).2
  obtain ⟨hfault, htake⟩ := State.takeSample_of_rests (Line.rests_of_evaluates h)
  have htime : w.time = s.time := before.edits.time.trans (Edits.atFaults s L x).time
  have hrecord : (w.line L).fault.get d = (s.line L).fault.get d := by rw [before.record, State.atFaults_fault]
  have hprofile : (w.line L).profile = (s.line L).profile := by
    rw [(before.edits.line L).profile, ((Edits.atFaults s L x).line L).profile, State.beforeHook_line]
  have heval : w.evalCondition L d p x.elapsed.val (s.line L).sup.hook v =
      ((w.storeCondition L d r).stage (some L) b, f) := by
    unfold State.evalCondition
    dsimp only
    rw [hrecord, hprofile, htime, hstep, hreport]
  rw [State.finds_of_evaluates h, State.evalIf, if_pos rfl, heval] at hget behind
  have kguard : ∀ (u : State) (g : GuardRequest),
      Edits [.sup, .base, .dec, .coll, .pool, .stage] u (u.guardRequest L g) := fun u g =>
    Edits.refl.guardRequest (by decide) (by decide) (by decide) (by decide) (by decide) (by decide) g
  have kstore : Edits [.fault] w (w.storeCondition L d r) := Edits.refl.storeCondition (by decide) d r
  rw [hfault, htake]
  refine ⟨hget, ?_, fun hroom => ?_⟩
  · rw [((kguard ..).line L).fault (by decide), behind.record, State.stage_line, State.storeCondition_get, if_pos rfl]
  · have hq : (w.storeCondition L d r).journal.queue.length < 32 := by
      have h7 : State.AddsAtMost 7 s (s.atFaults L x) := s.beforeFaults_adds L x
      have h11 := (h7.trans before.adds).edits kstore (by decide)
      unfold State.AddsAtMost at h11
      omega
    rw [← htime, ← kstore.time]
    exact mem_queue_of_stage hq ((behind.edits.stages.trans (kguard ..).stages).trans (.settle _))

/-! ### The raise and the clear (R106, R120, R121) -/

/-- The record of a condition as a raise by a sample leaves it. -/
def CondRecord.raisedBySense (r : CondRecord) (e : Nat) (now : Word) : CondRecord :=
  { state := .raised, timer := (r.timer.advance e).stop, source := .sense, raisedAt := now }

/-- The record of a condition as a clear by a sample leaves it. -/
def CondRecord.clearedBySense (r : CondRecord) (e : Nat) : CondRecord :=
  { r with state := .clear, timer := (r.timer.advance e).stop, source := .sense }

theorem CondRecord.stepWith_raises {r : CondRecord} {e confirm clear : Nat} (hs : r.state = .suspect)
    (ht : (r.timer.advance e).reached confirm = true) (now : Word) :
    (r.advance e).stepWith true confirm clear now = (r.raisedBySense e now, .raise) := by
  simp [CondRecord.stepWith, CondRecord.advance, CondRecord.raisedBySense, hs, ht]

theorem CondRecord.stepWith_clears {r : CondRecord} {e confirm clear : Nat} (hs : r.state = .clearing)
    (ht : (r.timer.advance e).reached clear = true) (now : Word) :
    (r.advance e).stepWith false confirm clear now = (r.clearedBySense e, .clear) := by
  simp [CondRecord.stepWith, CondRecord.advance, CondRecord.clearedBySense, hs, ht]

/-- CONDITION_CONFIRM and CONDITION_CLEAR are the sample, if the Fault Monitor reports the step of the condition. -/
theorem exec_conditionConfirm_of_reported (ha : s.sampleArrives L x = true) (hd : d ≠ .powerCross)
    (h : (s.takeSample L x).2.fault.get d = .raise) :
    exec (.conditionConfirm L d x) s = .next (s.takeSample L x).1.settle := by
  change s.sampleRow L x (fun r => decide (d ≠ .powerCross) && decide (r.fault.get d = .raise)) = _
  simp [State.sampleRow, ha, hd, h]

theorem exec_conditionClear_of_reported (ha : s.sampleArrives L x = true) (hd : d ≠ .powerCross)
    (h : (s.takeSample L x).2.fault.get d = .clear) :
    exec (.conditionClear L d x) s = .next (s.takeSample L x).1.settle := by
  change s.sampleRow L x (fun r => decide (d ≠ .powerCross) && decide (r.fault.get d = .clear)) = _
  simp [State.sampleRow, ha, hd, h]

/-- Settles O26: the Fault Monitor steps the condition from SUSPECT to RAISED, and the rest of the sample leaves its
record and its report. -/
theorem conditionConfirmRaises : Obligations.ConditionConfirmRaises := by
  intro s L d x v ha h hs hr ht hroom
  obtain ⟨heffect, hrecord, hqueue⟩ := State.takeSample_condition h
    (CondRecord.stepWith_raises hs (Timer.advance_reached hr ht) s.time) (fun _ => rfl)
  refine ⟨_, exec_conditionConfirm_of_reported ha (Line.evaluates_ne_powerCross h) heffect, ?_⟩
  rw [State.settle_line, hrecord]
  exact ⟨rfl, rfl, rfl, rfl, hqueue hroom⟩

/-- Settles O27: the Fault Monitor steps the condition from CLEARING to CLEAR, and the rest of the sample leaves its
record and its report. -/
theorem conditionClearStagesFaultCleared : Obligations.ConditionClearStagesFaultCleared := by
  intro s L d x v ha h hs hr ht hroom
  obtain ⟨heffect, hrecord, hqueue⟩ := State.takeSample_condition h
    (CondRecord.stepWith_clears hs (Timer.advance_reached hr ht) s.time) (fun _ => rfl)
  refine ⟨_, exec_conditionClear_of_reported ha (Line.evaluates_ne_powerCross h) heffect, ?_⟩
  rw [State.settle_line, hrecord]
  exact ⟨rfl, rfl, rfl, hqueue hroom⟩

end Sys2Proof.Machine

/-! ## Readings and the loop watch (R116, R140, R141, R145, R149, R152, R154) -/

namespace Sys2Proof.Machine

variable {s : State} {L : LineNo} {x : ReadTarget} {q : ResQ} {dc ac v : Int} {xs : List Int}

/-! ### The values of a reading (R140) -/

theorem convert_eq (c : Int) : convert c = max (-2048) (min 2047 c) := by
  unfold convert clampInt
  split
  · omega
  · split <;> omega

theorem sumInt_eq (xs : List Int) : sumInt xs = xs.sum := List.sum_eq_foldl.symm

theorem readingDc_eq (xs : List Int) : readingDc xs = (xs.map (fun c => max (-2048) (min 2047 c))).sum / 20 := by
  rw [readingDc, sumInt_eq, funext convert_eq]

theorem readingAc_eq (xs : List Int) :
    readingAc xs = (xs.map (fun c => |max (-2048) (min 2047 c) -
      (xs.map (fun c => max (-2048) (min 2047 c))).sum / 20|)).sum / 20 := by
  simp only [readingAc, sumInt_eq, readingDc_eq, convert_eq, Int.natCast_natAbs]

/-! ### A reading taken into its series (R141) -/

theorem agrees_eq_false {last r : Int} (h : max 2 (r.natAbs / 50) < (r - last).natAbs) : agrees last r = false :=
  decide_eq_false (Nat.not_le.mpr h)

/-- r_1, and a reading before the eighth that does not agree with the one before it, are kept as the last. -/
theorem Series.take_kept {se : Series} {r : Int}
    (h : se.taken = 0 ∨ se.taken < 7 ∧ max 2 (r.natAbs / 50) < (r - se.last).natAbs) :
    se.take r = .more ⟨se.target, se.taken + 1, r⟩ := by
  unfold Series.take
  by_cases h0 : se.taken = 0
  · simp [h0]
  · obtain ⟨hlt, hfar⟩ := h.resolve_left h0
    rw [if_neg h0, agrees_eq_false hfar, if_neg Bool.false_ne_true, if_neg (by unfold Config.seriesLength; omega)]

/-- A reading that its series keeps begins the next one of the same target; V1 has no series, and the first of a drive
series has passed the collision check (R141, R149, R151). -/
theorem State.useReading_of_more {se : Series} (hx : x ≠ .v1)
    (hdrive : ∀ q, x = .drive q → s.test.series.taken = 0 → driveHolds dc = true) (h : s.test.series.take dc = .more se)
    (ac : Int) : s.useReading x dc ac = s.setTest (s.test.continueReading x se) := by
  unfold State.useReading
  cases x
  case v1 => exact absurd rfl hx
  case drive q =>
    have hpass : ¬ (s.test.series.taken = 0 ∧ driveHolds dc = false) := fun ⟨h0, hf⟩ => by
      rw [hdrive q rfl h0] at hf
      cases hf
    dsimp only
    rw [if_neg hpass, h]
  all_goals
    dsimp only
    rw [h]

theorem driveHolds_iff (dc : Int) : driveHolds dc = true ↔ 450 ≤ dc ∧ dc ≤ 550 := by
  simp [driveHolds]

/-- The first reading of a drive series outside 450..550 is a collision (R149). -/
theorem State.useReading_collision (h0 : s.test.series.taken = 0) (hdc : dc < 450 ∨ 550 < dc) (ac : Int) :
    s.useReading (.drive q) dc ac = s.collision q dc := by
  have hfail : driveHolds dc = false := by
    rw [Bool.eq_false_iff, Ne, driveHolds_iff]
    omega
  exact if_pos ⟨h0, hfail⟩

/-! ### READING_DONE (R140, R154) -/

theorem State.readingDone_of_lineTest (h : s.test.step = .reading x) (hl : xs.length = 20)
    (hx : x.isReference = false) :
    s.readingDone xs = s.setTest { s.test with step := .watch x (readingDc xs) (readingAc xs) } := by
  unfold State.readingDone
  rw [h]
  dsimp only
  rw [if_pos hl, if_neg (by rw [hx]; exact Bool.false_ne_true)]

theorem State.readingDone_of_reference (h : s.test.step = .reading x) (hl : xs.length = 20)
    (hx : x.isReference = true) : s.readingDone xs = s.useReading x (readingDc xs) (readingAc xs) := by
  unfold State.readingDone
  rw [h]
  dsimp only
  rw [if_pos hl, if_pos hx]

/-! ### LOOP_WATCH_READ (R145) -/

/-- The limit of 50 lies within the converter's range. -/
theorem loopWatchLimit_le_convert (v : Int) : Config.loopWatchLimit ≤ (convert v).natAbs ↔ 50 ≤ v ∨ v ≤ -50 := by
  rw [convert_eq]
  unfold Config.loopWatchLimit
  omega

theorem State.loopWatch_cuts (h : s.test.step = .watch x dc ac) (hv : 50 ≤ v ∨ v ≤ -50) :
    s.loopWatch v = s.cutTest := by
  unfold State.loopWatch
  rw [h]
  exact if_pos ((loopWatchLimit_le_convert v).mpr hv)

theorem State.loopWatch_uses (h : s.test.step = .watch x dc ac) (hlo : -50 < v) (hhi : v < 50) :
    s.loopWatch v = s.useReading x dc ac := by
  unfold State.loopWatch
  rw [h]
  exact if_neg (by rw [loopWatchLimit_le_convert]; omega)

/-! ### The close of a test (R152) -/

theorem State.completeOrder_frame (s : State) (r : OrderResult) :
    (s.completeOrder r).lines = s.lines ∧ (s.completeOrder r).test = s.test := by
  unfold State.completeOrder
  split <;> exact ⟨rfl, rfl⟩

/-- A charged pair is discharged before the relays open (R148). -/
theorem State.closeTest_charged (h : s.test.charged = true) :
    s.closeTest = s.setTest { s.test with
      phase := .discharging, stimulus := .zero, step := .discharge 0 .close, series := {} } := if_pos h

/-- Without a charge the test ends at once: the stimulus removed, the relays open, the line back (R31). -/
theorem State.closeTest_uncharged (h : s.test.charged = false) (hc : s.test.connection = some L) :
    s.closeTest.test =
        { s.test with connection := none, phase := .idle, stimulus := .none, step := .idle, series := {} } ∧
      (s.closeTest.line L).sup.hook = (s.line L).sup.testReturn.hook ∧ (s.closeTest.line L).cond.reseed = true := by
  have hclose : s.closeTest = State.finishTest (s.setTest { s.test with
      phase := .closing, stimulus := .none, step := .idle, series := {} }) :=
    if_neg (by rw [h]; exact Bool.false_ne_true)
  rw [hclose]
  unfold State.finishTest
  simp only [State.setTest_test, hc]
  generalize OrderResult.mk _ _ = r
  generalize hu : State.setTest (State.setTest s _) _ = u
  obtain ⟨hlines, htest⟩ := (u.returnLine L).completeOrder_frame r
  have hline : u.line L = s.line L := by rw [← hu]; rfl
  rw [State.line_of_lines hlines, State.returnLine_line_self, hline, htest, (Near.returnLine (.refl L u)).within.test]
  exact ⟨by rw [← hu]; rfl, rfl, rfl⟩

/-! ### A raise event of the Test Engine (R116, R120) -/

/-- A raise event leaves FOREIGN_DC RAISED with source TEST, whatever its state was. -/
theorem State.testRaise_foreignDc (s : State) (L : LineNo) (f : Finding) (r : Int) :
    ((s.testRaise L f r).line L).fault.foreignDc.state = .raised ∧
      ((s.testRaise L f r).line L).fault.foreignDc.source = .test := by
  unfold State.testRaise
  dsimp only
  cases h : (s.line L).fault.foreignDc.state
  case clear => simp [State.line_markTimed]
  case suspect => simp [State.line_markTimed]
  case raised =>
    dsimp only
    split <;> simp [State.line_markTimed]
  case clearing => simp [State.line_markTimed]

/-- A FOREIGN_DC that was CLEAR or SUSPECT is written, and then reported (R120). -/
theorem State.testRaise_reports
    (h : (s.line L).fault.foreignDc.state = .clear ∨ (s.line L).fault.foreignDc.state = .suspect) (f : Finding)
    (r : Int) :
    ∃ u, Edits [.fault] s u ∧
      s.testRaise L f r = u.stage (some L) (.faultRaised .foreignDc .test f (s.line L).sup.hook r) := by
  unfold State.testRaise
  dsimp only
  rcases h with h | h
  all_goals
    rw [h]
    exact ⟨_, (Edits.refl.setFault (by decide) _).markTimed L, rfl⟩

/-! ### A collision (R149) -/

theorem Quantities.resistance_setResistance (r : Quantities) (q : ResQ) (x : Quantity) :
    (r.setResistance q x).resistance q = x := by
  cases q <;> rfl

theorem Quantities.resistance_skipAll (r : Quantities) (q : ResQ) : r.skipAll.resistance q = (r.resistance q).skip := by
  cases q <;> rfl

/-- The quantity of a resistance whose collision check failed. -/
def foreignQuantity : Quantity := { notRun := false, foreign := true, measured := true }

/-- The test as a collision leaves it for the raise event: the quantity stored, the others SKIPPED, the stimulus
removed. -/
def State.collided (s : State) (q : ResQ) : State :=
  s.setTest { s.test with
    results := (s.test.results.setResistance q foreignQuantity).skipAll, finding := .foreignSource, stimulus := .none }

theorem State.collision_eq (hc : s.test.connection = some L) (q : ResQ) (dc : Int) :
    s.collision q dc = ((s.collided q).testRaise L .foreignSource dc).closeTest := by
  unfold State.collision State.finding
  simp only [State.setTest_test, hc]
  rw [← hc]
  rfl

theorem Stages.setTest (s : State) (e : TestEngine) : Stages s (s.setTest e) :=
  .of_journal rfl rfl rfl rfl rfl id id

/-- Settles O56: the reading gives its values, and its loop watch read cuts the test or lets the reading be used. -/
theorem readingsAndLoopWatch : Obligations.ReadingsAndLoopWatch := by
  refine ⟨fun s x xs h hl hx => ?_, fun s x xs h hl hx h0 => ?_, fun s x dc ac v L h hc hv => ?_,
    fun s x dc ac v h hlo hhi hx hdrive hkept => ?_, fun s q dc ac v L h hlo hhi h0 hdc hc hch => ?_⟩
  · refine ⟨(s.readingDone xs).settle, rfl, ?_⟩
    rw [State.readingDone_of_lineTest h hl hx, ← readingAc_eq, ← readingDc_eq]
    exact ⟨State.settle_test _, State.settle_lines _, State.settle_executor _, State.settle_queue _⟩
  · have hx1 : x ≠ .v1 := by rintro rfl; cases hx
    have hnd : ∀ q, x ≠ .drive q := by rintro q rfl; cases hx
    refine ⟨(s.readingDone xs).settle, rfl, ?_⟩
    rw [State.readingDone_of_reference h hl hx,
      State.useReading_of_more hx1 (fun q e => absurd e (hnd q)) (Series.take_kept (.inl h0)), h0, ← readingDc_eq]
    exact ⟨State.settle_test _, State.settle_lines _, State.settle_executor _⟩
  · refine ⟨(s.loopWatch v).settle, rfl, ?_⟩
    rw [State.loopWatch_cuts h hv, State.cutTest, State.settle_test, State.settle_line, State.settle_lines]
    generalize hu : s.setTest _ = u
    have htest : u.test = { s.test with seized := true, results := s.test.results.skipAll } := by rw [← hu]; rfl
    have hlines : u.lines = s.lines := by rw [← hu]; rfl
    split
    · rename_i hch
      rw [State.closeTest_charged (by rw [htest]; exact hch), State.setTest_test, htest]
      exact ⟨rfl, rfl, rfl, rfl, rfl, rfl, hlines⟩
    · rename_i hch
      obtain ⟨ht, hhook, hreseed⟩ := State.closeTest_uncharged (s := u) (by rw [htest]; simpa using hch)
        (by rw [htest]; exact hc)
      rw [ht, htest, hhook, State.line_of_lines hlines]
      exact ⟨rfl, rfl, rfl, rfl, rfl, rfl, by cases (s.line L).sup.testReturn <;> rfl, hreseed⟩
  · refine ⟨(s.loopWatch v).settle, rfl, ?_⟩
    rw [State.loopWatch_uses h hlo hhi, State.useReading_of_more hx
      (fun q e h0 => (driveHolds_iff dc).mpr (hdrive q e h0)) (Series.take_kept hkept)]
    exact ⟨State.settle_test _, State.settle_lines _, State.settle_executor _⟩
  · refine ⟨(s.loopWatch v).settle, rfl, ?_⟩
    have htest : ((s.collided q).testRaise L .foreignSource dc).test = (s.collided q).test :=
      (Near.testRaise (.refl L _) _ _).within.test
    rw [State.loopWatch_uses h hlo hhi, State.useReading_collision h0 hdc, State.collision_eq hc,
      State.closeTest_charged (by rw [htest]; exact hch), htest, State.settle_test, State.settle_line,
      State.setTest_line, State.setTest_test]
    obtain ⟨hraised, hsource⟩ := (s.collided q).testRaise_foreignDc L .foreignSource dc
    refine ⟨rfl, ?_, rfl, rfl, rfl, rfl, hraised, hsource, fun hnew => ?_⟩
    · exact (Quantities.resistance_skipAll ..).trans (by rw [Quantities.resistance_setResistance]; rfl)
    · obtain ⟨u, hu, he⟩ := State.testRaise_reports (s := s.collided q) hnew .foreignSource dc
      have hj := hu.journal (by decide)
      rw [show s.time = u.time from hu.time.symm, he]
      exact stagedFirst_of_stage (by rw [hj]; rfl) (by rw [hj]; rfl)
        ((Stages.setTest ..).trans (.settle _))

end Sys2Proof.Machine

/-! ## The repairs of a profile (R135) -/

namespace Sys2Proof.Machine

/-! ### What the five repairs make of a profile -/

/-- The five repairs, in the order of R135. -/
def Profile.repaired (c : Profile) : Profile :=
  repairRatioMax (repairGMax (repairBreakMin (repairFlashMax (repairFlashMin c))))

theorem parseProfile_eq_repaired (bs : List Byte) : parseProfile bs = (clampedProfile bs).repaired := rfl

theorem repairFlashMin_eq (p : Profile) :
    repairFlashMin p =
      { p with flashMin := if p.flashMin ≤ p.pulseBreakMax then p.pulseBreakMax + 1 else p.flashMin } := by
  unfold repairFlashMin
  split <;> rfl

theorem repairFlashMax_eq (p : Profile) : repairFlashMax p = { p with flashMax := max p.flashMax p.flashMin } := by
  unfold repairFlashMax
  split
  · rw [Nat.max_eq_right (Nat.le_of_lt ‹_›)]
  · rw [Nat.max_eq_left (Nat.le_of_not_lt ‹_›)]

theorem repairBreakMin_eq (p : Profile) :
    repairBreakMin p =
      { p with breakMin := if p.pulseBreakMax ≤ p.breakMin then p.pulseBreakMax - 1 else p.breakMin } := by
  unfold repairBreakMin
  split <;> rfl

theorem repairGMax_eq (p : Profile) : repairGMax p = { p with gMax := max p.gMax p.gMin } := by
  unfold repairGMax
  split
  · rw [Nat.max_eq_right (Nat.le_of_lt ‹_›)]
  · rw [Nat.max_eq_left (Nat.le_of_not_lt ‹_›)]

theorem repairRatioMax_eq (p : Profile) : repairRatioMax p = { p with ratioMax := max p.ratioMax p.ratioMin } := by
  unfold repairRatioMax
  split
  · rw [Nat.max_eq_right (Nat.le_of_lt ‹_›)]
  · rw [Nat.max_eq_left (Nat.le_of_not_lt ‹_›)]

theorem Profile.repaired_eq (c : Profile) :
    c.repaired = { c with
      flashMin := if c.flashMin ≤ c.pulseBreakMax then c.pulseBreakMax + 1 else c.flashMin
      flashMax := max c.flashMax c.repaired.flashMin
      breakMin := if c.pulseBreakMax ≤ c.breakMin then c.pulseBreakMax - 1 else c.breakMin
      gMax := max c.gMax c.gMin
      ratioMax := max c.ratioMax c.ratioMin } := by
  simp only [Profile.repaired, repairFlashMin_eq, repairFlashMax_eq, repairBreakMin_eq, repairGMax_eq,
    repairRatioMax_eq]

/-- The repairs leave a profile alone where they leave the five limits that they can write. -/
theorem Profile.repaired_eq_self {c : Profile} (h1 : c.repaired.flashMin = c.flashMin)
    (h2 : c.repaired.flashMax = c.flashMax) (h3 : c.repaired.breakMin = c.breakMin) (h4 : c.repaired.gMax = c.gMax)
    (h5 : c.repaired.ratioMax = c.ratioMax) : c.repaired = c := by
  have e : c.repaired = { c with
      flashMin := c.repaired.flashMin, flashMax := c.repaired.flashMax, breakMin := c.repaired.breakMin
      gMax := c.repaired.gMax, ratioMax := c.repaired.ratioMax } := by
    rw [c.repaired_eq]
  rw [e, h1, h2, h3, h4, h5]

/-! ### The ranges of the limits -/

/-- The eight limits that the repairs compare lie in the ranges of R134. -/
structure Profile.LimitsInRange (c : Profile) : Prop where
  pulseBreakMax : 40 ≤ c.pulseBreakMax ∧ c.pulseBreakMax ≤ 120
  flashMin : 80 ≤ c.flashMin ∧ c.flashMin ≤ 400
  flashMax : 100 ≤ c.flashMax ∧ c.flashMax ≤ 1000
  breakMin : 10 ≤ c.breakMin ∧ c.breakMin ≤ 40
  gMin : 100 ≤ c.gMin ∧ c.gMin ≤ 400
  gMax : 200 ≤ c.gMax ∧ c.gMax ≤ 1000
  ratioMin : 50 ≤ c.ratioMin ∧ c.ratioMin ≤ 70
  ratioMax : 60 ≤ c.ratioMax ∧ c.ratioMax ≤ 80

theorem clamp_mem {lo hi : Nat} (h : lo ≤ hi) (x : Nat) : lo ≤ clamp lo hi x ∧ clamp lo hi x ≤ hi := by
  rw [clamp_eq h]
  omega

/-- A number in the range is its own clamp. -/
theorem clamp_of_mem {lo hi x : Nat} (h : lo ≤ x ∧ x ≤ hi) : clamp lo hi x = x := by
  rw [clamp_eq (Nat.le_trans h.1 h.2)]
  omega

theorem clampedProfile_limits (bs : List Byte) : (clampedProfile bs).LimitsInRange :=
  ⟨clamp_mem (by decide) _, clamp_mem (by decide) _, clamp_mem (by decide) _, clamp_mem (by decide) _,
    clamp_mem (by decide) _, clamp_mem (by decide) _, clamp_mem (by decide) _, clamp_mem (by decide) _⟩

/-- The repairs keep every limit in its range. -/
theorem Profile.LimitsInRange.repaired {c : Profile} (h : c.LimitsInRange) : c.repaired.LimitsInRange := by
  obtain ⟨hp, hfm, hfx, hb, hg, hgx, hr, hrx⟩ := h
  have flashMin : 80 ≤ c.repaired.flashMin ∧ c.repaired.flashMin ≤ 400 := by
    rw [c.repaired_eq]
    dsimp only
    split <;> omega
  rw [c.repaired_eq]
  refine ⟨hp, ?_, ?_, ?_, hg, ?_, hr, ?_⟩
  · rwa [c.repaired_eq] at flashMin
  · dsimp only
    omega
  · dsimp only
    split <;> omega
  · dsimp only
    omega
  · dsimp only
    omega

/-! ### A repaired limit differs from the one read -/

/-- No place differs only where the two lists are the same. -/
theorem eq_of_countChanged_eq_zero : ∀ {xs ys : List Int}, xs.length = ys.length → countChanged xs ys = 0 → xs = ys
  | [], [], _, _ => rfl
  | x :: xs, y :: ys, hl, h => by
    rw [countChanged] at h
    split at h
    · rename_i hxy
      rw [hxy, eq_of_countChanged_eq_zero (Nat.succ.inj hl) (by omega)]
    · omega

/-- With no field counted as changed, the limits that a repair can write are those read. -/
theorem limits_of_fields_eq {bs : List Byte} {p : Profile} (h : rawFields bs = p.fields) :
    rd16 bs 0x12 = p.flashMin ∧ rd16 bs 0x14 = p.flashMax ∧ rd16 bs 0x0E = p.breakMin ∧ rd16 bs 0x18 = p.gMax ∧
    rd8 bs 0x1B = p.ratioMax := by
  simp only [rawFields, Profile.fields, List.cons.injEq, Int.natCast_inj] at h
  obtain ⟨-, -, -, -, -, -, -, -, -, -, hb, -, hfm, hfx, -, hgx, -, hrx, -⟩ := h
  exact ⟨hfm, hfx, hb, hgx, hrx⟩

/-- A limit in its range which is the one read is the clamped one, so a record with no changed field is not repaired. -/
theorem parseProfile_eq_clamped {bs : List Byte} (h : profileClamped bs = 0) : parseProfile bs = clampedProfile bs := by
  obtain ⟨hfm, hfx, hb, hgx, hrx⟩ := limits_of_fields_eq (eq_of_countChanged_eq_zero rfl h)
  rw [parseProfile_eq_repaired] at hfm hfx hb hgx hrx ⊢
  have r := (clampedProfile_limits bs).repaired
  exact Profile.repaired_eq_self ((clamp_of_mem r.flashMin).symm.trans (congrArg (clamp 80 400) hfm.symm))
    ((clamp_of_mem r.flashMax).symm.trans (congrArg (clamp 100 1000) hfx.symm))
    ((clamp_of_mem r.breakMin).symm.trans (congrArg (clamp 10 40) hb.symm))
    ((clamp_of_mem r.gMax).symm.trans (congrArg (clamp 200 1000) hgx.symm))
    ((clamp_of_mem r.ratioMax).symm.trans (congrArg (clamp 60 80) hrx.symm))

/-- The order of the limits that the repairs leave (R135). -/
theorem Profile.LimitsInRange.ordered {c : Profile} (h : c.LimitsInRange) :
    c.repaired.breakMin < c.repaired.pulseBreakMax ∧ c.repaired.pulseBreakMax < c.repaired.flashMin ∧
    c.repaired.flashMin ≤ c.repaired.flashMax ∧ c.repaired.gMin ≤ c.repaired.gMax ∧
    c.repaired.ratioMin ≤ c.repaired.ratioMax := by
  have hp := h.pulseBreakMax
  rw [c.repaired_eq]
  refine ⟨?_, ?_, ?_, Nat.le_max_right .., Nat.le_max_right ..⟩
  · dsimp only
    split <;> omega
  · dsimp only
    split <;> omega
  · show _ ≤ max c.flashMax c.repaired.flashMin
    rw [c.repaired_eq]
    exact Nat.le_max_right ..

/-- How far the repair of a limit can move it (R135). -/
theorem Profile.LimitsInRange.moved {c : Profile} (h : c.LimitsInRange) :
    (c.repaired.flashMin ≠ c.flashMin → c.repaired.flashMin ≤ 121) ∧
    (c.repaired.breakMin ≠ c.breakMin → 39 ≤ c.repaired.breakMin) ∧
    (c.repaired.gMax ≠ c.gMax → 200 < c.repaired.gMax) ∧
    (c.repaired.ratioMax ≠ c.ratioMax → 60 < c.repaired.ratioMax) := by
  obtain ⟨hp, -, -, -, -, hgx, -, hrx⟩ := h
  rw [c.repaired_eq]
  dsimp only
  refine ⟨?_, ?_, ?_, ?_⟩
  · split <;> omega
  · split <;> omega
  · omega
  · omega

/-- Settles O38: the repairs written out, and the clamped limits in their ranges. -/
theorem profileRepairsKeepTheBreakClasses : Obligations.ProfileRepairsKeepTheBreakClasses := by
  intro bs c p
  have h := clampedProfile_limits bs
  have r := h.repaired
  obtain ⟨h1, h2, h3, h4, h5⟩ := h.ordered
  obtain ⟨m1, m2, m3, m4⟩ := h.moved
  exact ⟨c.repaired_eq, h1, h2, h3, h4, h5, r.flashMin.1, r.flashMin.2, m1, r.breakMin.1, r.breakMin.2, m2,
    r.flashMax.2, r.gMax.2, m3, r.ratioMax.2, m4,
    fun hne => Nat.pos_of_ne_zero fun h0 => hne (parseProfile_eq_clamped h0)⟩

end Sys2Proof.Machine

/-! ## The sequence in progress at the end of a command (R168, R172, R173, R180) -/

namespace Sys2Proof.Machine

variable {s : State} {w : Work}

/-! ### A grant moves a sequence from one step to the next -/

/-- The grant of an access leaves the sequence its kind and its counts, and moves its step only in a status write. -/
theorem State.journalGranted_work_step (h : s.journal.work = some w) :
    ∃ st, s.journalGranted.journal.work = some { w with step := st } ∧ ((∀ c, w.step ≠ .entries c) → st = w.step) := by
  unfold State.journalGranted
  split
  · rename_i hw
    cases h.symm.trans hw
    split <;> exact ⟨_, rfl, fun hc => absurd rfl (hc _)⟩
  · exact ⟨w.step, h, fun _ => rfl⟩

theorem State.grantShared_work_step (h : s.journal.work = some w) :
    ∃ st, s.grantShared.journal.work = some { w with step := st } ∧ ((∀ c, w.step ≠ .entries c) → st = w.step) := by
  unfold State.grantShared
  split
  · split
    · exact ⟨w.step, h, fun _ => rfl⟩
    · exact State.journalGranted_work_step h
  · exact State.journalGranted_work_step h
  · exact ⟨w.step, h, fun _ => rfl⟩
  · exact ⟨w.step, h, fun _ => rfl⟩

theorem State.beginFinal_of_work (h : s.journal.work = some w) : s.beginFinal = s :=
  if_neg fun hn => by simp [h] at hn

/-! ### What the port does, by the control state -/

theorem State.settle_of_starting (hc : s.run.control = .starting) (hp : s.run.port = .free) :
    s.settle = s.grantStart := by
  simp only [State.settle, hp, hc]

theorem State.settle_of_running (hc : s.run.control = .running) (hp : s.run.port = .free) :
    s.settle = if s.run.freezeAsked then s.enterFrozen else s.grantShared := by
  simp only [State.settle, hp, hc]

theorem State.settle_of_stopping (hc : s.run.control = .stopping) (hp : s.run.port = .free) :
    s.settle = s.beginFinal.grantShared := by
  simp only [State.settle, hp, hc]

/-- In FROZEN, STOPPED and MEMORY_ERROR nothing is granted (R172). -/
theorem State.settle_of_quiet
    (hc : s.run.control = .frozen ∨ s.run.control = .stopped ∨ s.run.control = .memoryError) : s.settle = s := by
  rcases hc with hc | hc | hc
  all_goals exact State.settle_of_idle (by rw [hc]; nofun) (by rw [hc]; nofun) (by rw [hc]; nofun)

/-- A sequence in progress keeps its kind and its counts at the end of a command. -/
theorem State.settle_work_step (h : s.journal.work = some w) :
    ∃ st, s.settle.journal.work = some { w with step := st } ∧ ((∀ c, w.step ≠ .entries c) → st = w.step) := by
  have same : ∃ st, s.journal.work = some { w with step := st } ∧ ((∀ c, w.step ≠ .entries c) → st = w.step) :=
    ⟨w.step, h, fun _ => rfl⟩
  cases hp : s.run.port
  case busy a l => rwa [State.settle_of_busy hp]
  case free =>
    cases hc : s.run.control
    case starting =>
      rw [State.settle_of_starting hc hp]
      unfold State.grantStart
      split <;> exact same
    case running =>
      rw [State.settle_of_running hc hp]
      split
      · exact same
      · exact State.grantShared_work_step h
    case stopping =>
      rw [State.settle_of_stopping hc hp, State.beginFinal_of_work h]
      exact State.grantShared_work_step h
    case stopped => rwa [State.settle_of_quiet (.inr (.inl hc))]
    case frozen => rwa [State.settle_of_quiet (.inl hc)]
    case memoryError => rwa [State.settle_of_quiet (.inr (.inr hc))]

/-- The causes and the control state change at the end of a command only by a freeze (R180). -/
theorem State.settle_without_freeze (h : s.run.control ≠ .running ∨ s.run.freezeAsked = false) :
    s.settle.run.control = s.run.control ∧ s.settle.run.causes = s.run.causes := by
  cases hp : s.run.port
  case busy a l =>
    rw [State.settle_of_busy hp]
    exact ⟨rfl, rfl⟩
  case free =>
    by_cases hc : s.run.control = .running
    · have hf : s.run.freezeAsked = false := h.resolve_left (absurd hc)
      obtain ⟨h1, h2⟩ := s.settle_run_of_running hc hp
      rw [hf] at h1 h2
      exact ⟨h1.trans hc.symm, h2⟩
    · refine ⟨(Settles.settle s).control.resolve_right fun h => hc h.1, ?_⟩
      cases hc' : s.run.control
      case running => exact absurd hc' hc
      case starting => rw [State.settle_of_starting hc' hp, State.grantStart_causes]
      case stopping => rw [State.settle_of_stopping hc' hp, State.grantShared_causes, State.beginFinal_run]
      case stopped => rw [State.settle_of_quiet (.inr (.inl hc'))]
      case frozen => rw [State.settle_of_quiet (.inl hc')]
      case memoryError => rw [State.settle_of_quiet (.inr (.inr hc'))]

end Sys2Proof.Machine

/-! ## A poll expiry and a NUDGE (R126, R165, R175) -/

namespace Sys2Proof.Machine

variable {s t u v : State}

/-! ### The two units -/

theorem State.journalPoll_executor (s : State) : s.journalPoll.executor = s.executor := s.journalPoll_frame.2.2

theorem State.executorPoll_journal (s : State) : s.executorPoll.journal = s.journal := by
  unfold State.executorPoll
  repeat' split
  all_goals rfl

/-- An executor at work takes neither a poll expiry nor a NUDGE (R126). -/
theorem State.executorPoll_of_busy (h : s.executor.phase ≠ .idle) : s.executorPoll = s := if_neg h

theorem State.executorPoll_of_running (hp : s.executor.phase = .idle) (hc : s.run.control = .running) :
    s.executorPoll = s.setExecutor { s.executor with phase := .lookPriority } := by
  simp only [State.executorPoll, hp, hc, if_true, State.atPhase]

theorem State.executorPoll_of_suspended (hp : s.executor.phase = .idle)
    (hc : s.run.control = .frozen ∨ s.run.control = .memoryError) :
    s.executorPoll = s.setExecutor { s.executor with lookOwed := true } := by
  rcases hc with hc | hc
  all_goals simp only [State.executorPoll, hp, hc, if_true]

/-- Outside RUNNING, FROZEN and MEMORY_ERROR the executor takes no NUDGE (R126). -/
theorem State.executorPoll_of_not_live (hc : s.run.control.live = false) : s.executorPoll = s := by
  unfold State.executorPoll
  split
  · cases h : s.run.control
    case running => rw [h] at hc; cases hc
    case frozen => rw [h] at hc; cases hc
    case memoryError => rw [h] at hc; cases hc
    all_goals rfl
  · rfl

theorem State.executorPoll_poll (s : State) : s.executorPoll.executor.poll = s.executor.poll := by
  unfold State.executorPoll
  repeat' split
  all_goals rfl

theorem State.journalPoll_recheck (hf : s.journal.full = true) (hc : s.run.control = .running)
    (hw : s.journal.work = none) : s.journalPoll = s.beginRecheck := by
  simp only [State.journalPoll, hf, hc, hw, if_true]

theorem State.journalPoll_goes_on (hf : s.journal.full = true) (hc : s.run.control = .running)
    (hw : s.journal.work ≠ none) : s.journalPoll = s := by
  simp only [State.journalPoll, hf, hc, if_neg hw, if_true]

theorem State.journalPoll_owes (hf : s.journal.full = true)
    (hc : s.run.control = .frozen ∨ s.run.control = .memoryError) :
    s.journalPoll = s.setJournal { s.journal with recheckOwed := true } := by
  rcases hc with hc | hc
  all_goals simp only [State.journalPoll, hf, hc, if_true]

theorem State.journalPoll_full (s : State) : s.journalPoll.journal.full = s.journal.full := by
  unfold State.journalPoll
  repeat' split
  all_goals rfl

/-! ### What a poll expiry and a NUDGE make of both units -/

/-- What `t` has of a poll expiry or of a NUDGE taken in `v`, in both units (R126, R165). -/
structure Nudged (v t : State) : Prop where
  poll : t.executor.poll = v.executor.poll
  full : t.journal.full = v.journal.full
  look : v.executor.phase = .idle → v.run.control = .running →
    t.executor = { v.executor with phase := .lookPriority }
  lookOwed : v.executor.phase = .idle → v.run.control = .frozen ∨ v.run.control = .memoryError →
    t.executor = { v.executor with lookOwed := true }
  recheck : v.journal.full = true → v.run.control = .running → v.journal.work = none →
    t.journal.work = some ⟨.recheck, 0, 0, .readOwner⟩
  recheckOwed : v.journal.full = true → v.run.control = .frozen ∨ v.run.control = .memoryError →
    t.journal.recheckOwed = true
  goesOn : v.journal.full = true → v.run.control = .running → v.journal.work ≠ none →
    t.journal.work.map Work.kind = v.journal.work.map Work.kind ∧ t.journal.recheckOwed = v.journal.recheckOwed

theorem State.nudge_executor_of_busy (h : v.executor.phase ≠ .idle) : v.nudge.executor = v.executor := by
  have hx := v.journalPoll_executor
  rw [State.nudge, State.executorPoll_of_busy (by rwa [hx]), hx]

theorem State.nudge_executor_of_not_live (h : v.run.control.live = false) : v.nudge.executor = v.executor := by
  rw [State.nudge, State.executorPoll_of_not_live (by rwa [State.journalPoll_run]), State.journalPoll_executor]

theorem State.nudge_journal (v : State) : v.nudge.journal = v.journalPoll.journal := State.executorPoll_journal _

theorem Nudged.nudge (v : State) : Nudged v v.nudge where
  poll := (State.executorPoll_poll _).trans (congrArg Executor.poll v.journalPoll_executor)
  full := (congrArg Journal.full v.nudge_journal).trans v.journalPoll_full
  look hp hc := by
    have hx := v.journalPoll_executor
    rw [State.nudge, State.executorPoll_of_running (by rwa [hx]) (by rwa [State.journalPoll_run]), hx]
    rfl
  lookOwed hp hc := by
    have hx := v.journalPoll_executor
    rw [State.nudge, State.executorPoll_of_suspended (by rwa [hx]) (by rwa [State.journalPoll_run]), hx]
    rfl
  recheck hf hc hw := by
    rw [State.nudge_journal, State.journalPoll_recheck hf hc hw]
    rfl
  recheckOwed hf hc := by
    rw [State.nudge_journal, State.journalPoll_owes hf hc]
    rfl
  goesOn hf hc hw := by
    rw [State.nudge_journal, State.journalPoll_goes_on hf hc hw]
    exact ⟨rfl, rfl⟩

/-! ### What follows in the same command -/

/-- What follows a poll expiry in its command: with FULL 1 the Journal Unit's sequence moves by a grant at most, and the
executor is left alone unless its order in execution completes. -/
structure Follows (t u : State) : Prop where
  poll : u.executor.poll = t.executor.poll
  executor : (∀ o w, t.executor.phase ≠ .executing o w) → u.executor = t.executor
  full : u.journal.full = t.journal.full
  recheckOwed : u.journal.recheckOwed = t.journal.recheckOwed
  work : t.journal.full = true → ∀ w, t.journal.work = some w →
    ∃ st, u.journal.work = some { w with step := st } ∧ (w.step = .readOwner → st = .readOwner)

theorem Follows.trans (h : Follows s t) (k : Follows t u) : Follows s u where
  poll := k.poll.trans h.poll
  executor hp := (k.executor (by rwa [h.executor hp])).trans (h.executor hp)
  full := k.full.trans h.full
  recheckOwed := k.recheckOwed.trans h.recheckOwed
  work hf w hw := by
    obtain ⟨st, h1, h2⟩ := h.work hf w hw
    obtain ⟨st', k1, k2⟩ := k.work (h.full.trans hf) _ h1
    exact ⟨st', k1, fun hs => k2 (h2 hs)⟩

theorem Follows.settle (s : State) : Follows s s.settle where
  poll := congrArg Executor.poll s.settle_executor
  executor _ := s.settle_executor
  full := s.settle_full
  recheckOwed := s.settle_recheckOwed
  work _ w hw := by
    obtain ⟨st, h1, h2⟩ := State.settle_work_step hw
    exact ⟨st, h1, fun hs => (h2 (by rw [hs]; nofun)).trans hs⟩

/-- Neither unit is touched, but for what a trigger does while FULL is 0. -/
structure LeavesUnits (s t : State) : Prop where
  executor : t.executor = s.executor
  full : t.journal.full = s.journal.full
  recheckOwed : t.journal.recheckOwed = s.journal.recheckOwed
  work : s.journal.full = true → t.journal.work = s.journal.work

theorem LeavesUnits.trans (h : LeavesUnits s t) (k : LeavesUnits t u) : LeavesUnits s u :=
  ⟨k.executor.trans h.executor, k.full.trans h.full, k.recheckOwed.trans h.recheckOwed,
    fun hf => (k.work (h.full.trans hf)).trans (h.work hf)⟩

theorem LeavesUnits.of_within (h : Within s t) (hw : s.journal.full = true → t.journal.work = s.journal.work) :
    LeavesUnits s t :=
  ⟨h.executor, h.full, h.recheckOwed, hw⟩

theorem LeavesUnits.refl (s : State) : LeavesUnits s s := .of_within (.refl s) fun _ => rfl

theorem LeavesUnits.follows (h : LeavesUnits s t) : Follows s t where
  poll := congrArg Executor.poll h.executor
  executor _ := h.executor
  full := h.full
  recheckOwed := h.recheckOwed
  work hf w hs := ⟨w.step, (h.work hf).trans hs, id⟩

/-- A nudged state stays nudged under what follows: the look it has made or owes is no order in execution. -/
theorem Nudged.follows (h : Nudged v t) (k : Follows t u) : Nudged v u where
  poll := k.poll.trans h.poll
  full := k.full.trans h.full
  look hp hc := by
    have ht := h.look hp hc
    exact (k.executor (by rw [ht]; nofun)).trans ht
  lookOwed hp hc := by
    have ht := h.lookOwed hp hc
    exact (k.executor (by rw [ht, hp]; nofun)).trans ht
  recheck hf hc hw := by
    obtain ⟨st, h1, h2⟩ := k.work (h.full.trans hf) _ (h.recheck hf hc hw)
    rw [h1, h2 rfl]
  recheckOwed hf hc := k.recheckOwed.trans (h.recheckOwed hf hc)
  goesOn hf hc hw := by
    obtain ⟨hk, ho⟩ := h.goesOn hf hc hw
    refine ⟨?_, k.recheckOwed.trans ho⟩
    rw [← hk]
    cases ht : t.journal.work
    case none =>
      rw [ht] at hk
      exact absurd (Option.map_eq_none_iff.mp hk.symm) hw
    case some w =>
      obtain ⟨st, h1, -⟩ := k.work (h.full.trans hf) w ht
      rw [h1]
      rfl

/-- What the units are nudged from may differ in what neither unit reads. -/
theorem Nudged.of_leavesUnits {x : Executor} (h : LeavesUnits s v) (hr : v.run = s.run)
    (k : Nudged (v.setExecutor x) t) : Nudged (s.setExecutor x) t where
  poll := k.poll
  full := k.full.trans h.full
  look hp hc := k.look hp (by rwa [State.setExecutor_run, hr])
  lookOwed hp hc := k.lookOwed hp (by rwa [State.setExecutor_run, hr])
  recheck hf hc hw := k.recheck (h.full.trans hf) (by rwa [State.setExecutor_run, hr]) ((h.work hf).trans hw)
  recheckOwed hf hc := k.recheckOwed (h.full.trans hf) (by rwa [State.setExecutor_run, hr])
  goesOn hf hc hw := by
    obtain ⟨hk, ho⟩ := k.goesOn (h.full.trans hf) (by rwa [State.setExecutor_run, hr]) (by
      rw [State.setExecutor_journal, h.work hf]
      exact hw)
    rw [State.setExecutor_journal, h.work hf] at hk
    exact ⟨hk, ho.trans h.recheckOwed⟩

/-! ### The test engine's millisecond -/

/-- What a step of a test that reads nothing comes to: the engine's record written, and the end of the test at most. -/
inductive TestGoesOn (s : State) : State → Prop
  | sets (e : TestEngine) : TestGoesOn s (s.setTest e)
  | ends (e : TestEngine) : TestGoesOn s (s.setTest e).finishTest

theorem TestGoesOn.of_setTest {e : TestEngine} (h : TestGoesOn (s.setTest e) t) : TestGoesOn s t := by
  cases h
  case sets e' => exact .sets e'
  case ends e' => exact .ends e'

theorem TestGoesOn.closeTest (s : State) : TestGoesOn s s.closeTest := by
  unfold State.closeTest
  dsimp only
  split
  · exact .sets _
  · exact .ends _

theorem TestGoesOn.afterResistance (s : State) : TestGoesOn s s.afterResistance := by
  unfold State.afterResistance
  split
  · exact .sets _
  · exact .closeTest s

theorem TestGoesOn.afterVoltage (s : State) : TestGoesOn s s.afterVoltage := by
  unfold State.afterVoltage
  split
  · exact .sets _
  · exact .afterResistance s

theorem TestGoesOn.beginTests (s : State) : TestGoesOn s s.beginTests := by
  unfold State.beginTests
  dsimp only
  split
  · exact .sets _
  · exact (TestGoesOn.afterVoltage _).of_setTest

theorem TestGoesOn.dischargeEnd (s : State) (n : AfterDischarge) : TestGoesOn s (s.dischargeEnd n) := by
  cases n
  case resistance => exact .sets _
  case capacitance => exact .sets _
  case close => exact .ends _

theorem TestGoesOn.tickTest (s : State) : TestGoesOn s s.tickTest.1 := by
  unfold State.tickTest
  split
  · split
    · exact .beginTests s
    · exact .sets _
  · split <;> exact .sets _
  · split <;> exact .sets _
  · split
    · exact .dischargeEnd s _
    · exact .sets _
  · exact .sets s.test

theorem State.changeHook_work (s : State) (L : LineNo) (h : Hook) :
    (s.changeHook L h).journal.work = s.journal.work := by
  unfold State.changeHook
  split <;> rfl

theorem LeavesUnits.setTest (s : State) (e : TestEngine) : LeavesUnits s (s.setTest e) :=
  ⟨rfl, rfl, rfl, fun _ => rfl⟩

theorem LeavesUnits.returnLine (s : State) (L : LineNo) : LeavesUnits s (s.returnLine L) :=
  .of_within (Near.returnLine (.refl L s)).within fun _ => s.changeHook_work L _

theorem Follows.completeOrder (s : State) (r : OrderResult) : Follows s (s.completeOrder r) := by
  unfold State.completeOrder
  split
  · rename_i o w hp
    exact ⟨rfl, fun hn => absurd hp (hn o w), rfl, rfl, fun _ w h => ⟨w.step, h, id⟩⟩
  · exact (LeavesUnits.refl s).follows

theorem Follows.finishTest (s : State) : Follows s s.finishTest := by
  unfold State.finishTest
  split
  · exact (LeavesUnits.refl s).follows
  · exact ((LeavesUnits.setTest ..).trans (.returnLine ..)).follows.trans (.completeOrder ..)

theorem TestGoesOn.follows (h : TestGoesOn s t) : Follows s t := by
  cases h
  case sets e => exact (LeavesUnits.setTest s e).follows
  case ends e => exact (LeavesUnits.setTest s e).follows.trans (.finishTest _)

/-! ### Triggers and the loss of links -/

/-- While FULL is 1 a trigger has no effect (R161). -/
theorem State.trigger_of_full (h : s.journal.full = true) : s.trigger = s := if_pos h

theorem LeavesUnits.trigger (s : State) : LeavesUnits s s.trigger :=
  .of_within (.trigger s) fun hf => congrArg (·.journal.work) (State.trigger_of_full hf)

theorem LeavesUnits.append (s : State) (l : Option LineNo) (b : RecordBody) (v : Bool) :
    LeavesUnits s (s.append l b v) := by
  have queued : LeavesUnits s (s.enqueued l b) := ⟨rfl, rfl, rfl, fun _ => rfl⟩
  rw [State.append_eq]
  split
  · exact queued.trans (.trigger _)
  · exact queued

theorem LeavesUnits.stage (s : State) (l : Option LineNo) (b : RecordBody) (v : Bool) :
    LeavesUnits s (s.stage l b v) := by
  unfold State.stage
  split
  · exact .append ..
  · exact ⟨rfl, rfl, rfl, fun _ => rfl⟩

theorem LeavesUnits.closeLink (s : State) (g : LinkNo) : LeavesUnits s (s.closeLink g) := by
  have closed : LeavesUnits s (s.setLink g ((s.link g).closed s.time)) := ⟨rfl, rfl, rfl, fun _ => rfl⟩
  cases h : (s.link g).losing
  · rwa [State.closeLink_of_not_losing h]
  · rw [State.closeLink_of_losing h]
    exact closed.trans (.stage ..)

theorem LeavesUnits.foldl_closeLink : ∀ (gs : List LinkNo) (s : State), LeavesUnits s (gs.foldl State.closeLink s)
  | [], s => .refl s
  | g :: gs, s => (LeavesUnits.closeLink s g).trans (LeavesUnits.foldl_closeLink gs (s.closeLink g))

theorem LeavesUnits.tickDelay (s : State) : LeavesUnits s s.tickDelay := by
  have ticked : LeavesUnits s (s.setJournal { s.journal with delay := s.journal.delay.tick }) :=
    ⟨rfl, rfl, rfl, fun _ => rfl⟩
  unfold State.tickDelay
  dsimp only
  split
  · exact ticked.trans (.trigger _)
  · exact ticked

theorem LeavesUnits.tickAbsolute (s : State) : LeavesUnits s s.tickAbsolute := by
  have ticked : LeavesUnits s (s.setJournal { s.journal with absolute := s.journal.absolute.tick }) :=
    ⟨rfl, rfl, rfl, fun _ => rfl⟩
  unfold State.tickAbsolute
  dsimp only
  split
  · exact ticked.trans (.trigger _)
  · exact ticked

/-! ### The strobe instant at which the poll timer expires -/

/-- The state in which the poll timer takes its millisecond. -/
def State.batchTicked (s : State) : State := s.advanceTime.tickDelay.tickAbsolute

theorem LeavesUnits.batchTicked (s : State) : LeavesUnits s s.batchTicked := by
  have advanced : LeavesUnits s s.advanceTime := ⟨rfl, rfl, rfl, fun _ => rfl⟩
  exact (advanced.trans (.tickDelay _)).trans (.tickAbsolute _)

theorem Ticks.batchTicked (s : State) : Ticks s.advanceTime s.batchTicked :=
  (Ticks.refl s.advanceTime).tickDelay.tickAbsolute

theorem State.pollExpires_batchTicked (hr : s.executor.poll.running = true)
    (hl : s.settings.orderPoll ≤ s.executor.poll.value + 1) : s.batchTicked.pollExpires = true := by
  rw [State.pollExpires, (LeavesUnits.batchTicked s).executor, (Ticks.batchTicked s).settings, hr]
  exact decide_eq_true hl

/-- An expired poll timer restarts and reaches both units as a NUDGE does (R126, R165). -/
theorem State.tickPoll_of_expired (h : s.pollExpires = true) :
    s.tickPoll = State.nudge (s.setExecutor { s.executor with poll := Timer.started }) := if_pos h

/-- The whole strobe instant of a poll expiry, as the two units take it. -/
theorem Nudged.strobeInstant (hlive : s.run.control.live = true) (hr : s.executor.poll.running = true)
    (hl : s.settings.orderPoll ≤ s.executor.poll.value + 1) :
    Nudged (s.setExecutor { s.executor with poll := Timer.started }) s.strobeInstant.1.settle := by
  have hb := LeavesUnits.batchTicked s
  have hpoll : s.batchTicked.tickPoll =
      State.nudge (s.batchTicked.setExecutor { s.executor with poll := Timer.started }) := by
    rw [State.tickPoll_of_expired (State.pollExpires_batchTicked hr hl), hb.executor]
  have after : Follows s.batchTicked.tickPoll s.ticked.closeLinks.settle :=
    ((TestGoesOn.tickTest s.batchTicked.tickPoll).follows.trans
      (LeavesUnits.foldl_closeLink allLinks s.ticked).follows).trans (.settle _)
  rw [hpoll] at after
  rw [State.strobeInstant_of_live _ hlive]
  exact .of_leavesUnits hb (Ticks.batchTicked s).run ((Nudged.nudge _).follows after)

theorem State.orderPoll_due (hlive : s.run.control.live = true) (hr : s.executor.poll.running = true)
    (hl : s.settings.orderPoll ≤ s.executor.poll.value + 1) : s.strobeInstant.2.poll = true := by
  show (s.batchTicked.run.control.live && s.batchTicked.pollExpires) = true
  rw [(Ticks.batchTicked s).run, State.pollExpires_batchTicked hr hl, Bool.and_true]
  exact hlive

/-- Settles O40: a poll expiry restarts its timer and nudges both units, and what follows in the command lets the look
and the re-read stand. -/
theorem pollAndNudgeReachBothUnits : Obligations.PollAndNudgeReachBothUnits := by
  refine ⟨fun s hlive hr hl => ?_, fun s v => ?_⟩
  · have k := Nudged.strobeInstant hlive hr hl
    refine ⟨s.strobeInstant.1.settle, ?_, (Keeps.strobeInstant s).time, k.poll, k.look, k.lookOwed, k.recheck,
      k.recheckOwed, k.goesOn⟩
    exact congrArg Host.Outcome.next (if_pos (State.orderPoll_due hlive hr hl))
  · have k := (Nudged.nudge s).follows (.settle _)
    have hx : s.nudge.settle.executor = s.nudge.executor := State.settle_executor _
    refine ⟨s.nudge.settle, rfl, k.look, k.lookOwed, k.recheck, k.recheckOwed, k.goesOn,
      fun h => hx.trans (State.nudge_executor_of_busy h), fun h => hx.trans (State.nudge_executor_of_not_live h), ?_,
      (Keeps.refl s).nudge.settle.time⟩
    rw [State.settle_lines, State.nudge, (State.executorPoll_frame _).1, (State.journalPoll_frame _).1]

end Sys2Proof.Machine

/-! ## Looks, takes and completions (R124 to R130) -/

namespace Sys2Proof.Machine

variable {s : State} {a : Access} {data : List Byte} {o : Order}

theorem isReady_eq (bs : List Byte) : isReady bs = decide (bs.getD 0 0 = 1) :=
  decide_eq_decide.mpr (BitVec.toNat_inj (y := 1#8))

/-! ### The choice, by the current list -/

theorem OrderList.other_eq (l : OrderList) : l.other = if l = .priority then .routine else .priority := by
  cases l <;> rfl

theorem Settings.weight_eq (st : Settings) (l : OrderList) :
    st.weight l = if l = .priority then st.weightPriority else st.weightRoutine := by
  cases l <;> rfl

theorem hasWork_eq (p r : Bool) (l : OrderList) : hasWork p r l = if l = .priority then p else r := by
  cases l <;> rfl

theorem hasWork_other_eq (p r : Bool) (l : OrderList) : hasWork p r l.other = if l = .priority then r else p := by
  cases l <;> rfl

/-- The table of R127. -/
theorem chooseList_eq (current : OrderList) (served weight : Nat) (currentWork otherWork : Bool) :
    chooseList current served weight currentWork otherWork =
      if currentWork then
        if served < weight then some (current, served + 1)
        else if otherWork then some (current.other, 1)
        else some (current, 1)
      else if otherWork then some (current.other, 1)
      else none := by
  cases currentWork
  · cases otherWork <;> rfl
  · by_cases h : served < weight
    · simp [chooseList, h]
    · cases otherWork <;> simp [chooseList, h]

/-- A look ends in the read of a take, or in IDLE, by the table of R127. -/
theorem State.lookDone_executor (s : State) (priority routine : Bool) :
    (s.lookDone priority routine).executor = { s.executor with
      phase :=
        if hasWork priority routine s.executor.current then
          if s.executor.served < s.settings.weight s.executor.current then
            .takeRead s.executor.current (s.executor.served + 1)
          else if hasWork priority routine s.executor.current.other then .takeRead s.executor.current.other 1
          else .takeRead s.executor.current 1
        else if hasWork priority routine s.executor.current.other then .takeRead s.executor.current.other 1
        else .idle } := by
  unfold State.lookDone
  simp only [chooseList_eq]
  repeat' split
  all_goals simp_all [State.atPhase]

/-! ### The executor's step in each phase -/

theorem State.executorDone_lookPriority (h : s.executor.phase = .lookPriority) (data : List Byte) :
    s.executorDone data = s.atPhase (.lookRoutine (isReady data)) := by
  rw [State.executorDone, h]

theorem State.executorDone_lookRoutine {p : Bool} (h : s.executor.phase = .lookRoutine p) (data : List Byte) :
    s.executorDone data = s.lookDone p (isReady data) := by
  rw [State.executorDone, h]

theorem State.executorDone_takeRead {l : OrderList} {n : Nat} (h : s.executor.phase = .takeRead l n)
    (data : List Byte) : s.executorDone data = s.takeReadDone l n data := by
  rw [State.executorDone, h]

theorem State.executorDone_takeWrite {n : Nat} (h : s.executor.phase = .takeWrite o n) (data : List Byte) :
    s.executorDone data = s.orderTaken o n := by
  rw [State.executorDone, h]

theorem State.executorDone_writeResult {r : OrderResult} (h : s.executor.phase = .writeResult o r)
    (data : List Byte) : s.executorDone data = s.atPhase (.writeDone o) := by
  rw [State.executorDone, h]

theorem State.executorDone_writeDone (h : s.executor.phase = .writeDone o) (data : List Byte) :
    s.executorDone data = (s.raiseCause .order).becomeIdle := by
  rw [State.executorDone, h]

/-- In RUNNING the executor takes the good response to its access, and the port is granted after it. -/
theorem exec_memoryAccessDone_executor (hc : s.run.control = .running) (hp : s.run.port = .busy a true)
    (hu : a.unit = .executor) (ha : a.answeredBy data = true) :
    exec (.memoryAccessDone data) s = .next (s.freePort.executorDone data).settle := by
  show Host.Outcome.next (s.accessDone data) = _
  unfold State.accessDone
  simp only [hp, ha, hu, hc, if_true]
  rfl

theorem Access.answeredBy_of_length (h : data.length = a.length) : a.answeredBy data = true := by
  simp [Access.answeredBy, h]

theorem State.becomeIdle_of_running (hc : s.run.control = .running) : s.becomeIdle = s.atPhase .lookPriority := by
  simp only [State.becomeIdle, hc]

theorem State.takeReadDone_of_running (hc : s.run.control = .running) (l : OrderList) (n : Nat) :
    (s.takeReadDone l n data).executor = { s.executor with
      phase := if data.getD 0 0 = 1 then .takeWrite ⟨l, s.executor.next l, data⟩ n else .lookPriority } := by
  rw [State.takeReadDone, isReady_eq, State.becomeIdle_of_running hc]
  split
  · rename_i h
    rw [if_pos (of_decide_eq_true h)]
    rfl
  · rename_i h
    rw [if_neg (by simpa using h)]
    rfl

/-- An order of unknown kind completes BAD_KIND in the take itself (R129, R184). -/
theorem State.carryOut_of_unknown (h : o.kind = none) :
    s.carryOut o = s.atPhase (.writeResult o ⟨resultBadKind, emptyData⟩) := by
  unfold State.carryOut
  rw [h]
  exact State.completeOrder_executing (s := s.atPhase (.executing o .engine)) rfl _

/-- Settles O48: each response is the executor's step in its phase, which the port leaves alone. -/
theorem looksTakesAndCompletions : Obligations.LooksTakesAndCompletions := by
  refine ⟨fun s a b hc hp hu _ hl hphase => ?_, fun s a b p hc hp hu _ hl hphase => ?_,
    fun s a data l n hc hp hu _ hl hphase => ?_, fun s a data o n hc hp hu hw hphase hk => ?_,
    fun s a data o r hc hp hu hw hphase => ?_, fun s a data o hc hp hu hw hphase => ?_⟩
  · refine ⟨_, exec_memoryAccessDone_executor hc hp hu (Access.answeredBy_of_length hl.symm), ?_⟩
    rw [State.settle_executor, State.executorDone_lookPriority (s := s.freePort) hphase, isReady_eq]
    rfl
  · refine ⟨_, exec_memoryAccessDone_executor hc hp hu (Access.answeredBy_of_length hl.symm), ?_⟩
    rw [State.settle_executor, State.executorDone_lookRoutine (s := s.freePort) hphase, State.lookDone_executor,
      isReady_eq, hasWork_other_eq, hasWork_eq, Settings.weight_eq, OrderList.other_eq]
    rfl
  · refine ⟨_, exec_memoryAccessDone_executor hc hp hu (Access.answeredBy_of_length hl), ?_⟩
    rw [State.settle_executor, State.executorDone_takeRead (s := s.freePort) hphase]
    exact State.takeReadDone_of_running (s := s.freePort) hc l n
  · refine ⟨_, exec_memoryAccessDone_executor hc hp hu (Access.answeredBy_of_write data hw), ?_⟩
    have hstop : s.freePort.run.control ≠ .stopping := fun h => nomatch hc.symm.trans h
    rw [State.settle_executor, State.settle_lines, State.settle_pool,
      State.executorDone_takeWrite (s := s.freePort) hphase, State.orderTaken_of_not_stopping hstop,
      State.carryOut_of_unknown hk]
    exact ⟨rfl, Eq.trans (by cases o.list <;> rfl) (s.executor.advance_next s.geometry o.list), rfl, rfl, rfl, rfl⟩
  · refine ⟨_, exec_memoryAccessDone_executor hc hp hu (Access.answeredBy_of_write data hw), ?_⟩
    rw [State.settle_executor, State.executorDone_writeResult (s := s.freePort) hphase]
    rfl
  · refine ⟨_, exec_memoryAccessDone_executor hc hp hu (Access.answeredBy_of_write data hw), ?_⟩
    rw [State.executorDone_writeDone (s := s.freePort) hphase,
      State.becomeIdle_of_running (s := s.freePort.raiseCause .order) hc, State.settle_executor, State.settle_lines]
    exact ⟨rfl, (CausesGrow.refl _).settle 3 (by simp [State.raiseCause, Cause.index]), rfl⟩

end Sys2Proof.Machine

/-! ## RUN written 1 and 0 (R131, R153, R170, R178, R179, R182) -/

namespace Sys2Proof.Machine

variable {s : State} {L : LineNo}

/-! ### RUN written 1 -/

/-- The start of a part at a free port asks for the first 64 bytes of the settings (R172, R178). -/
theorem State.runStart_of_stopped (hc : s.run.control = .stopped) (hp : s.run.port = .free) :
    s.runStart = s.setRun { s.run with
      control := .starting, startResult := .none, start := some ⟨.settings [], 0, 0⟩
      port := .busy ⟨.start, false, 0, 64, [], s.run.areaBase⟩ true } := by
  have hbase : s.run.areaBase + BitVec.ofNat 32 0 = s.run.areaBase := BitVec.add_zero _
  refine (if_pos hc).trans ((State.settle_of_starting (s := s.setRun { s.run with
    control := .starting, startResult := .none, start := some { step := .settings [] } }) rfl hp).trans ?_)
  show s.setRun { s.run with
    control := .starting, startResult := .none, start := some ⟨.settings [], 0, 0⟩
    port := .busy ⟨.start, false, 0, 64, [], s.run.areaBase + BitVec.ofNat 32 0⟩ true } = _
  rw [hbase]

theorem State.runStart_of_not_stopped (hc : s.run.control ≠ .stopped) : s.runStart = s := if_neg hc

/-! ### The executor and its test at a stop -/

/-- The outcome of an access in flight is no longer used: the Run Control alone changes, in its port. -/
theorem State.abandonRead_eq (s : State) : s.abandonRead = s.setRun { s.run with port := s.abandonRead.run.port } := by
  unfold State.abandonRead
  split <;> rfl

/-- A stopped test leaves the engine IDLE with its relays open and no stimulus, and the converter as it was (R153). -/
theorem State.stopTest_test (s : State) :
    s.stopTest.test =
      { s.test with connection := none, stimulus := .none, phase := .idle, step := .idle, series := {} } := by
  unfold State.stopTest
  dsimp only
  split
  · exact (Near.returnLine (.refl _ _)).within.test
  · rfl

/-- A stopped test gives its line back, with its reseed flag set (R31, R153). -/
theorem State.stopTest_line (h : s.test.connection = some L) :
    (s.stopTest.line L).cond.reseed = true ∧ (s.stopTest.line L).sup.hook = (s.line L).sup.testReturn.hook := by
  unfold State.stopTest
  simp only [h]
  rw [State.returnLine_line_self]
  exact ⟨rfl, rfl⟩

theorem State.changeHook_queue (s : State) (L : LineNo) (h : Hook) :
    (s.changeHook L h).journal.queue = s.journal.queue := by
  unfold State.changeHook
  split <;> rfl

theorem State.stopTest_frame (s : State) :
    s.stopTest.executor = s.executor ∧ s.stopTest.journal.queue = s.journal.queue := by
  unfold State.stopTest
  dsimp only
  split
  · exact ⟨(Near.returnLine (.refl _ _)).within.executor, State.changeHook_queue ..⟩
  · exact ⟨rfl, rfl⟩

/-- What a stop leaves alone, whatever the executor was doing. -/
theorem State.stopExecutor_frame (s : State) :
    s.stopExecutor.executor.poll = s.executor.poll ∧ s.stopExecutor.journal.queue = s.journal.queue ∧
    s.stopExecutor.run.causes = s.run.causes := by
  have habandon : ∀ u : State, u.abandonRead.executor = u.executor ∧ u.abandonRead.journal = u.journal := fun u => by
    rw [u.abandonRead_eq]
    exact ⟨rfl, rfl⟩
  unfold State.stopExecutor
  cases h : s.executor.phase
  case takeWrite o n =>
    dsimp only
    split <;> exact ⟨rfl, rfl, rfl⟩
  case executing o w =>
    obtain ⟨hx, hq⟩ := s.stopTest_frame
    dsimp only
    rw [(habandon _).1, (habandon _).2, State.abandonRead_causes]
    exact ⟨congrArg (·.poll) hx, hq, congrArg RunControl.causes s.stopTest_run⟩
  case idle => exact ⟨rfl, rfl, rfl⟩
  case writeResult => exact ⟨rfl, rfl, rfl⟩
  case writeDone => exact ⟨rfl, rfl, rfl⟩
  all_goals
    dsimp only
    rw [(habandon _).1, (habandon _).2, State.abandonRead_causes]
    exact ⟨rfl, rfl, rfl⟩

/-- An order in execution is answered STOPPED with empty data, and its test ends where it stands (R131, R153). -/
theorem State.stopExecutor_of_executing {o : Order} {w : OrderWork} (h : s.executor.phase = .executing o w) :
    s.stopExecutor.executor.phase = .writeResult o ⟨9, List.replicate 27 0⟩ ∧ s.stopExecutor.test = s.stopTest.test ∧
    ∀ L, s.stopExecutor.line L = s.stopTest.line L := by
  rw [State.stopExecutor, h]
  dsimp only
  rw [State.abandonRead_eq]
  exact ⟨rfl, rfl, fun _ => rfl⟩

/-- A look and the read of a take are abandoned (R131). -/
theorem State.stopExecutor_of_reading {p : Bool} {l : OrderList} {n : Nat}
    (h : s.executor.phase = .lookPriority ∨ s.executor.phase = .lookRoutine p ∨ s.executor.phase = .takeRead l n) :
    s.stopExecutor.executor.phase = .idle := by
  have habandon : (s.atPhase .idle).abandonRead.executor.phase = .idle := by
    rw [State.abandonRead_eq]
    rfl
  rcases h with h | h | h
  all_goals
    rw [State.stopExecutor, h]
    exact habandon

theorem State.stopExecutor_of_idle (h : s.executor.phase = .idle) : s.stopExecutor = s := by
  rw [State.stopExecutor, h]

/-! ### RUN written 0 -/

/-- The poll timer stopped and at 0 (R123, log entry 12). -/
def State.pollStopped (s : State) : State := s.setExecutor { s.executor with poll := {} }

/-- The part in STOPPING, before the port's grant (R131). -/
def State.stopping (s : State) : State :=
  s.pollStopped.stopExecutor.setRun { s.pollStopped.stopExecutor.run with control := .stopping }

theorem State.runStop_of_running (hc : s.run.control = .running) : s.runStop = s.stopping.settle := by
  rw [State.runStop, hc]
  rfl

/-- The final batch begins at once where nothing stands before it (R170). -/
theorem State.settle_begins_final (hc : s.run.control = .stopping) (hp : s.run.port = .free)
    (hw : s.journal.work = none) (hx : s.executor.phase = .idle) :
    s.settle.journal.work.map (fun x => (x.kind, x.taken, x.wrote)) = some (.final, s.journal.queue.length, 0) := by
  have hbegin : s.beginFinal = s.beginBatch .final := if_pos ⟨hw, by rw [hx]; rfl⟩
  rw [State.settle_of_stopping hc hp, hbegin]
  obtain ⟨st, h, -⟩ := State.grantShared_work_step (s := s.beginBatch .final) rfl
  rw [h]
  rfl

/-- RUN written 0 where no order can complete stops the part at once (R179, R182). -/
theorem State.runStop_of_not_running (hc : s.run.control ≠ .running) :
    s.runStop =
      if s.run.control = .frozen ∨ s.run.control = .memoryError ∨ s.run.control = .starting then
        State.enterStopped (s.setRun { s.run with
          startResult := if s.run.control = .starting then .aborted else s.run.startResult })
      else s := by
  rw [State.runStop]
  cases h : s.run.control
  case running => exact absurd h hc
  all_goals rfl

/-- Settles O57: a start at a free port, a stop that ends the executor's work and leaves the rest to the final batch, and
the entry to STOPPED where there is no work to end. -/
theorem runStartAndRunStopByControlState : Obligations.RunStartAndRunStopByControlState := by
  refine ⟨fun s => ⟨s.runStart, rfl, ?_⟩, fun s hc => ⟨s.stopping.settle, ?_, ?_⟩,
    fun s L hc => ⟨s.runStop, rfl, ?_⟩⟩
  · split
    · exact fun hp => State.runStart_of_stopped ‹_› hp
    · exact State.runStart_of_not_stopped ‹_›
  · exact congrArg Host.Outcome.next (State.runStop_of_running hc)
  · obtain ⟨hpoll, hqueue, hcauses⟩ := s.pollStopped.stopExecutor_frame
    obtain ⟨sc, sr⟩ := State.settle_without_freeze (s := s.stopping) (.inl nofun)
    rw [State.settle_executor, State.settle_test, State.settle_queue]
    refine ⟨sc, hpoll, hqueue, sr.trans hcauses, fun o w hx => ?_,
      fun p l n hx => State.stopExecutor_of_reading (s := s.pollStopped) hx, fun hx hw hp => ?_⟩
    · obtain ⟨hphase, htest, hline⟩ := State.stopExecutor_of_executing (s := s.pollStopped) hx
      have hrecord : s.stopping.test = _ := htest.trans s.pollStopped.stopTest_test
      rw [hrecord]
      refine ⟨hphase, rfl, rfl, rfl, rfl, fun L hL => ?_⟩
      obtain ⟨hreseed, hhook⟩ := State.stopTest_line (s := s.pollStopped) hL
      rw [State.settle_line, show s.stopping.line L = _ from hline L, hreseed, hhook]
      refine ⟨rfl, ?_⟩
      show (s.line L).sup.testReturn.hook = _
      cases (s.line L).sup.testReturn <;> rfl
    · have e : s.stopping = s.pollStopped.setRun { s.run with control := .stopping } := by
        rw [State.stopping, State.stopExecutor_of_idle (s := s.pollStopped) hx]
        rfl
      rw [e]
      exact State.settle_begins_final rfl hp hw hx
  · rw [State.runStop_of_not_running hc]
    split
    · refine ⟨rfl, rfl, rfl, rfl, rfl, ?_, ?_, rfl⟩
      · rw [State.enterStopped_line]
        rfl
      · rw [State.enterStopped_line]
        rfl
    · rfl

end Sys2Proof.Machine

/-! ## FREEZE and RESUME (R126, R161, R165, R173, R180, R181) -/

namespace Sys2Proof.Machine

variable {s : State} {a : Access}

/-! ### The return to RUNNING -/

theorem State.owedLook_journal (s : State) : s.owedLook.journal = s.journal := by
  unfold State.owedLook
  split <;> rfl

theorem State.returned_journal (s : State) : s.returned.journal = s.owedWork.journal := State.owedLook_journal _

theorem State.owedWork_executor (s : State) : s.owedWork.executor = s.executor := by
  rw [(BeginsWork.owedWork (s := s)).rest]

/-- A look owed is made where the executor is IDLE (R126). -/
theorem State.returned_looks (hp : s.executor.phase = .idle) (ho : s.executor.lookOwed = true) :
    s.returned.executor = { s.executor with phase := .lookPriority, lookOwed := false } := by
  have hx := s.owedWork_executor
  rw [State.returned, State.owedLook, if_pos (by rw [hx]; exact ⟨ho, hp⟩), hx]
  rfl

/-- A batch owed begins with FULL 0 (R161). -/
theorem State.owedWork_of_batch (hw : s.journal.work = none) (ho : s.journal.batchOwed = true)
    (hf : s.journal.full = false) :
    s.owedWork = State.beginBatch (s.setJournal { s.journal with batchOwed := false }) .normal := by
  rw [State.owedWork, if_neg (fun h => h hw), if_pos ⟨ho, hf⟩]

/-- A re-read owed begins with FULL 1 (R165). -/
theorem State.owedWork_of_recheck (hw : s.journal.work = none) (ho : s.journal.recheckOwed = true)
    (hf : s.journal.full = true) :
    s.owedWork = State.beginRecheck (s.setJournal { s.journal with recheckOwed := false }) := by
  rw [State.owedWork, if_neg (fun h => h hw), if_neg (by simp [hf]), if_pos ⟨ho, hf⟩]

/-- The batch owed takes every staged record, whatever step the end of the command leaves it at (R161, R163). -/
theorem State.returned_begins_batch (hw : s.journal.work = none) (ho : s.journal.batchOwed = true)
    (hf : s.journal.full = false) :
    s.returned.settle.journal.work.map (fun x => (x.kind, x.taken, x.wrote)) =
      some (.normal, s.journal.queue.length, 0) := by
  have hwork : s.returned.journal.work =
      some ⟨.normal, s.journal.queue.length, 0, if s.journal.queue.length = 0 then .entries 0 else .readOwner⟩ := by
    rw [State.returned_journal, State.owedWork_of_batch hw ho hf]
    rfl
  obtain ⟨st, h, -⟩ := State.settle_work_step hwork
  rw [h]
  rfl

/-- The re-read owed waits with its owner read (R165). -/
theorem State.returned_begins_recheck (hw : s.journal.work = none) (ho : s.journal.recheckOwed = true)
    (hf : s.journal.full = true) : s.returned.settle.journal.work = some ⟨.recheck, 0, 0, .readOwner⟩ := by
  have hwork : s.returned.journal.work = some ⟨.recheck, 0, 0, .readOwner⟩ := by
    rw [State.returned_journal, State.owedWork_of_recheck hw ho hf]
    rfl
  obtain ⟨st, h, hst⟩ := State.settle_work_step hwork
  rw [h, hst nofun]

/-! ### FREEZE -/

/-- The part as a thaw puts it in RUNNING, before the work owed (R180). -/
def State.thawed (s : State) : State := s.setRun { s.run with freezeAsked := false, control := .running }

/-- FREEZE written 0 in FROZEN returns the part to RUNNING (R180). -/
theorem State.freeze_thaws (h : s.run.control = .frozen) : s.freeze false = s.thawed.returned.settle :=
  if_pos ⟨h, rfl⟩

/-- Any other FREEZE sets freeze asked, and the port acts on it (R180). -/
theorem State.freeze_of_not_thaw {b : Bool} (h : ¬ (s.run.control = .frozen ∧ b = false)) :
    s.freeze b = (s.setRun { s.run with freezeAsked := b }).settle := if_neg h

/-- FREEZE written 1 in RUNNING at a free port freezes the part at once (R180). -/
theorem State.freeze_freezes (hc : s.run.control = .running) (hp : s.run.port = .free) :
    s.freeze true = State.enterFrozen (s.setRun { s.run with freezeAsked := true }) :=
  (State.freeze_of_not_thaw fun h => Bool.noConfusion h.2).trans
    (State.settle_of_running (s := s.setRun { s.run with freezeAsked := true }) hc hp)

theorem State.freeze_freezeAsked (s : State) (b : Bool) : (s.freeze b).run.freezeAsked = b := by
  unfold State.freeze
  dsimp only
  split
  · rename_i h
    rw [State.settle_freezeAsked, State.returned_run, h.2]
    rfl
  · rw [State.settle_freezeAsked]
    rfl

theorem State.settle_of_not_free (h : s.run.port ≠ .free) : s.settle = s := by
  cases hp : s.run.port
  case free => exact absurd hp h
  case busy a l => exact State.settle_of_busy hp

/-! ### RESUME -/

theorem State.resume_of_failed (hc : s.run.control = .memoryError) (hp : s.run.port = .free)
    (hf : s.run.failed = some a) : s.resume = s.retry a := by
  simp only [State.resume, hc, hp, hf]

/-- RESUME does nothing but in MEMORY_ERROR at a free port with an access failed (R181). -/
theorem State.resume_of_none (h : ∀ a, s.run.control = .memoryError → s.run.port = .free → s.run.failed ≠ some a) :
    s.resume = s := by
  unfold State.resume
  split
  · exact absurd ‹_› (h _ ‹_› ‹_›)
  · rfl

/-- Settles O58: the freeze and the thaw, each with the port's grant after it, and the retry of a failed access. -/
theorem freezeThawAndResume : Obligations.FreezeThawAndResume := by
  refine ⟨fun s b => ⟨s.freeze b, rfl, s.freeze_freezeAsked b, ?_, fun hn hp => ?_, fun hq => ?_, fun hc hb => ?_⟩,
    fun s => ⟨s.resume, rfl, ?_⟩⟩
  · rintro rfl hc hp
    exact State.freeze_freezes hc hp
  · rw [State.freeze_of_not_thaw (fun h => hn h.1)]
    exact State.settle_of_not_free hp
  · have hn : ¬ (s.run.control = .frozen ∧ b = false) := by
      rintro ⟨hf, rfl⟩
      rcases hq with hs | ⟨-, hb⟩
      · exact nomatch hf.symm.trans hs
      · cases hb
    rw [State.freeze_of_not_thaw hn]
    exact State.settle_of_quiet (hq.elim (fun h => .inr (.inl h)) (fun h => .inl h.1))
  · subst hb
    rw [State.freeze_thaws hc]
    have hrun : s.thawed.returned.run = s.thawed.run := s.thawed.returned_run
    obtain ⟨hcontrol, hcauses⟩ := State.settle_without_freeze (s := s.thawed.returned) (.inr (by rw [hrun]; rfl))
    have k := Answers.returned s.thawed
    rw [State.settle_executor, State.settle_queue, State.settle_lines, hcontrol, hcauses, hrun]
    refine ⟨rfl, rfl, fun hp ho => ?_, fun hp => k.executor hp,
      fun hw ho hf => State.returned_begins_batch (s := s.thawed) hw ho hf,
      fun hw ho hf => State.returned_begins_recheck (s := s.thawed) hw ho hf, k.queue, k.lines⟩
    rw [State.returned_looks (s := s.thawed) hp ho]
    exact ⟨rfl, rfl⟩
  · split
    · rename_i a hc hp hf
      rw [State.resume_of_failed hc hp hf]
      refine ⟨rfl, fun hu => ?_, fun hu => ?_⟩
      · simp [State.retry, hu]
      · simp [State.retry, hu]
    · rename_i h
      exact State.resume_of_none h

end Sys2Proof.Machine

/-! ## No final batch outside STOPPING, and the port FREE where nothing is granted (R170, R172, R180, R182) -/

namespace Sys2Proof.Machine

-- One theorem at a time: elaborated at once, so many small ones keep a thread each waiting, and the check's memory
-- limit counts every thread's stack.
set_option Elab.async false

variable {s t : State} {L : LineNo}

/-! ### No final batch -/

/-- No final batch is in progress. -/
structure NoFinal (s : State) : Prop where
  kind : ∀ w, s.journal.work = some w → w.kind ≠ .final

/-- A change of anything but the sequence in progress. -/
theorem NoFinal.of_work (h : NoFinal s) (e : t.journal.work = s.journal.work := by rfl) : NoFinal t :=
  ⟨fun w hw => h.kind w (e.symm.trans hw)⟩

theorem NoFinal.of_idle (h : s.journal.work = none) : NoFinal s :=
  ⟨fun _ hw => nomatch h.symm.trans hw⟩

/-- Another sequence in progress. -/
theorem NoFinal.of_kind {w : Work} (h : s.journal.work = some w) (hk : w.kind ≠ .final) : NoFinal s :=
  ⟨fun _ hv => Option.some.inj (h.symm.trans hv) ▸ hk⟩

theorem NoFinal.trigger (h : NoFinal s) : NoFinal s.trigger := by
  rcases s.trigger_cases with ⟨_, e⟩ | ⟨_, _, _, e⟩ | ⟨_, _, e⟩ <;> rw [e]
  · exact h
  · exact .of_kind rfl nofun
  · exact h.of_work

theorem NoFinal.append (h : NoFinal s) (l : Option LineNo) (b : RecordBody) (u : Bool) : NoFinal (s.append l b u) := by
  have queued : NoFinal (s.enqueued l b) := h.of_work
  rw [State.append_eq]
  split
  · exact queued.trigger
  · exact queued

theorem NoFinal.stage (h : NoFinal s) (l : Option LineNo) (b : RecordBody) (u : Bool) : NoFinal (s.stage l b u) := by
  unfold State.stage
  split
  · exact h.append l b u
  · exact h.of_work

/-- Edits reach the Journal Unit by staging alone. -/
theorem NoFinal.edits {ps : List EditPart} (h : NoFinal s) (e : Edits ps s t) : NoFinal t := by
  induction e with
  | refl => exact h
  | setLine _ L x k ih => exact ih.of_work
  | setReceiver _ hp r x ih => exact ih.of_work
  | setQueue _ hp q ih => exact ih.of_work
  | markUntimed _ L ih => exact ih.of_work
  | stage _ hj l b u ih => exact ih.stage l b u

theorem NoFinal.takeSample (h : NoFinal s) (L : LineNo) (x : Sample) : NoFinal (s.takeSample L x).1 := by
  cases hd : (s.line L).sup.hook.discards
  · have before : NoFinal (s.beforeHook L x) := h.of_work
    exact before.edits (Edits.takeSample x hd)
  · rwa [State.takeSample_of_discarded x hd]

/-! ### The Test Engine -/

theorem NoFinal.completeOrder (h : NoFinal s) (r : OrderResult) : NoFinal (s.completeOrder r) := by
  unfold State.completeOrder
  split
  · exact h.of_work
  · exact h

theorem NoFinal.returnLine (h : NoFinal s) (L : LineNo) : NoFinal (s.returnLine L) :=
  h.of_work (s.changeHook_work L _)

theorem NoFinal.finishTest (h : NoFinal s) : NoFinal s.finishTest := by
  unfold State.finishTest
  split
  · exact h
  · exact NoFinal.completeOrder (NoFinal.returnLine h.of_work _) _

theorem NoFinal.testGoesOn (h : NoFinal s) (g : TestGoesOn s t) : NoFinal t := by
  cases g
  case sets e => exact h.of_work
  case ends e => exact NoFinal.finishTest h.of_work

theorem NoFinal.testRaise (h : NoFinal s) (L : LineNo) (f : Finding) (r : Int) : NoFinal (s.testRaise L f r) := by
  have marked : ∀ x : FaultRecord, NoFinal ((s.setFault L x).markTimed L) := fun _ => h.of_work
  unfold State.testRaise
  dsimp only
  split
  · exact (marked _).stage ..
  · exact (marked _).stage ..
  · split
    · exact h.of_work
    · exact marked _
  · exact marked _

theorem NoFinal.finding (h : NoFinal s) (f : Finding) (r : Int) : NoFinal (s.finding f r) := by
  have found : ∀ e : TestEngine, NoFinal (s.setTest e) := fun _ => h.of_work
  unfold State.finding
  dsimp only
  split
  · exact ((found _).testRaise _ f r).testGoesOn (.closeTest _)
  · exact (found _).testGoesOn (.closeTest _)

theorem NoFinal.storeResistance (h : NoFinal s) (q : ResQ) (x : Quantity) : NoFinal (s.storeResistance q x) := by
  cases q
  case tg => exact h.of_work
  case rg => exact h.of_work
  case tr => exact NoFinal.testGoesOn (h.of_work (t := s.setTest _)) (.afterResistance _)

theorem NoFinal.seriesEnded (h : NoFinal s) (x : ReadTarget) (d a : Int) (u : Bool) :
    NoFinal (s.seriesEnded x d a u) := by
  have sets : ∀ e : TestEngine, NoFinal (s.setTest e) := fun _ => h.of_work
  unfold State.seriesEnded
  dsimp only
  split
  case h_2 =>
    unfold State.judgeVoltage
    dsimp only
    split
    · exact (sets _).finding ..
    · exact (sets _).testGoesOn (.afterVoltage _)
  case h_4 =>
    split
    · exact (sets _).storeResistance ..
    · exact sets _
  case h_5 => split <;> exact (sets _).storeResistance ..
  case h_7 => exact (sets _).testGoesOn (.closeTest _)
  case h_10 => exact NoFinal.completeOrder (sets _).of_work _
  all_goals exact sets _

theorem NoFinal.useReading (h : NoFinal s) (x : ReadTarget) (d a : Int) : NoFinal (s.useReading x d a) := by
  unfold State.useReading
  split
  · exact h.seriesEnded ..
  · split
    · exact NoFinal.finding h.of_work ..
    · split
      · exact h.of_work
      · exact h.seriesEnded ..
  · split
    · exact h.of_work
    · exact h.seriesEnded ..

theorem NoFinal.readingDone (h : NoFinal s) (xs : List Int) : NoFinal (s.readingDone xs) := by
  unfold State.readingDone
  repeat' split
  · exact h.useReading ..
  · exact h.of_work
  · exact h
  · exact h

theorem NoFinal.loopWatch (h : NoFinal s) (v : Int) : NoFinal (s.loopWatch v) := by
  unfold State.loopWatch
  repeat' split
  · exact NoFinal.testGoesOn (h.of_work (t := s.setTest _)) (.closeTest _)
  · exact h.useReading ..
  · exact h

/-! ### The Journal Unit -/

theorem NoFinal.stageGap (h : NoFinal s) : NoFinal s.stageGap := by
  unfold State.stageGap
  dsimp only
  split
  · exact h
  · exact NoFinal.append h.of_work ..

theorem NoFinal.owedWork (h : NoFinal s) : NoFinal s.owedWork := by
  unfold State.owedWork
  repeat' split
  · exact h
  · exact .of_kind rfl nofun
  · exact .of_kind rfl nofun
  · exact h

theorem NoFinal.returned (h : NoFinal s) : NoFinal s.returned :=
  h.owedWork.of_work (congrArg Journal.work s.owedWork.owedLook_journal)

theorem NoFinal.journalPoll (h : NoFinal s) : NoFinal s.journalPoll := by
  unfold State.journalPoll
  repeat' split
  · exact .of_kind rfl nofun
  · exact h
  · exact h.of_work
  · exact h.of_work
  · exact h
  · exact h

theorem NoFinal.afterRecords (s : State) {w : Work} (hk : w.kind ≠ .final) : NoFinal (s.afterRecords w) := by
  unfold State.afterRecords
  repeat' split
  all_goals exact .of_kind rfl hk

theorem NoFinal.recordWritten (s : State) {w : Work} (hk : w.kind ≠ .final) : NoFinal (s.recordWritten w) := by
  unfold State.recordWritten
  dsimp only
  split
  · exact .afterRecords _ hk
  · exact .of_kind rfl hk

theorem NoFinal.ownerRead (s : State) {w : Work} (hk : w.kind ≠ .final) (d : List Byte) :
    NoFinal (s.ownerRead w d) := by
  unfold State.ownerRead
  repeat' split
  · unfold State.recovered
    split
    · exact .of_idle rfl
    · exact .of_kind rfl nofun
  · exact .of_kind rfl hk
  · exact .of_kind rfl hk
  · exact .afterRecords _ hk

theorem NoFinal.roomChecked (s : State) {w : Work} (hk : w.kind ≠ .final) (d : List Byte) :
    NoFinal (s.roomChecked w d) := by
  unfold State.roomChecked
  split
  all_goals exact .of_kind rfl hk

theorem NoFinal.endWork (s : State) (w : Work) : NoFinal (s.endWork w) := by
  unfold State.endWork
  generalize (if w.wrote = 0 then s else s.raiseCause .batch) = u
  have ended : NoFinal (u.setJournal { u.journal with work := none }) := .of_idle rfl
  dsimp only
  split
  · exact .of_idle rfl
  · split
    · exact ended.owedWork
    · exact ended
  · have restarted : NoFinal (u.setJournal { u.journal with work := none }).restartAbsolute := by
      unfold State.restartAbsolute
      split
      · exact ended
      · exact ended.of_work
    split
    · exact restarted.owedWork
    · exact restarted

theorem NoFinal.journalDone (h : NoFinal s) (d : List Byte) : NoFinal (s.journalDone d) := by
  unfold State.journalDone
  split
  · exact h
  · rename_i w hw
    have hk : w.kind ≠ .final := h.kind w hw
    split
    · exact .ownerRead s hk d
    · exact .of_kind rfl hk
    · exact .recordWritten s hk
    · exact .roomChecked s hk d
    · exact h
    · exact .of_kind rfl hk
    · exact .endWork s w

/-! ### The Order Executor -/

theorem NoFinal.executorPoll (h : NoFinal s) : NoFinal s.executorPoll :=
  h.of_work (congrArg Journal.work s.executorPoll_journal)

theorem NoFinal.becomeIdle (h : NoFinal s) : NoFinal s.becomeIdle := by
  unfold State.becomeIdle
  split <;> exact h.of_work

theorem NoFinal.orderResume (h : NoFinal s) (L : LineNo) : NoFinal (s.orderResume L) := by
  unfold State.orderResume
  dsimp only
  split
  · exact (h.edits (Edits.resumed s L)).completeOrder _
  · exact h.completeOrder _

theorem NoFinal.orderAttach (h : NoFinal s) (L : LineNo) : NoFinal (s.orderAttach L) := by
  unfold State.orderAttach
  split
  · exact (h.edits (Edits.refl.request (ps := allParts) (by decide) L)).completeOrder _
  · exact h.completeOrder _

theorem NoFinal.admitTest (h : NoFinal s) (L : LineNo) (m : Nat) : NoFinal (s.admitTest L m) := by
  unfold State.admitTest
  split
  · exact h.completeOrder _
  · split
    · exact (h.edits (Edits.connectLine s L)).of_work
    · exact h.completeOrder _

theorem NoFinal.onLine (h : NoFinal s) (o : Order) {act : State → LineNo → State} (k : ∀ L, NoFinal (act s L)) :
    NoFinal (s.onLine o act) := by
  unfold State.onLine
  split
  · exact k _
  · exact h.completeOrder _

theorem NoFinal.carryOut (h : NoFinal s) (o : Order) : NoFinal (s.carryOut o) := by
  have h0 : NoFinal (s.atPhase (.executing o .engine)) := h.of_work
  unfold State.carryOut
  dsimp only
  split
  · exact h0.completeOrder _
  · exact h0.onLine o fun L => (h0.edits (Edits.blockLine _ L)).completeOrder _
  · exact h0.onLine o fun L => (h0.edits (Edits.unblockLine _ L)).completeOrder _
  · exact h0.onLine o fun L => h0.orderAttach L
  · exact h0.onLine o fun L => (h0.edits (Edits.refl.release (ps := allParts) (by decide) L)).completeOrder _
  · exact h0.onLine o fun L => h0.orderResume L
  · exact h0.onLine o fun L => h0.admitTest L _
  · exact h0.of_work
  · split
    · exact h.of_work
    · exact h0.completeOrder _
  · exact h.of_work
  · exact h.of_work

theorem NoFinal.orderTaken (h : NoFinal s) (o : Order) (n : Nat) : NoFinal (s.orderTaken o n) := by
  unfold State.orderTaken
  dsimp only
  split
  · exact h.of_work
  · exact NoFinal.carryOut h.of_work o

/-! ### The reloads -/

theorem NoFinal.copied (h : NoFinal s) (L : LineNo) (bs : List Byte) : NoFinal (s.copied L bs) := by
  unfold State.copied State.markClamped
  dsimp only
  split <;> exact h.of_work

theorem NoFinal.applyProfile (h : NoFinal s) (L : LineNo) (bs : List Byte) : NoFinal (s.applyProfile L bs) := by
  have hc := h.copied L bs
  have base : EditPart.base ∈ allParts := by decide
  rcases s.applyProfile_cases L bs with e | e | e | e <;> rw [e]
  · exact hc.edits
      (((Edits.refl.changeHook (by decide) _).askReseed.setBaseline base _ _).clearStartMark (by decide))
  · exact hc
  · have refreshed : NoFinal ((s.copied L bs).refreshLine L) :=
      hc.edits ((Edits.refl.setBaseline base _ _).setDec (by decide) _)
    exact refreshed.edits (Edits.loseTone ..)
  · have torn := hc.edits (Edits.refl.teardown (ps := allParts) (L := L) (by decide) (by decide) (by decide))
    exact ((torn.edits (Edits.clearFaults _ L)).edits (State.disableLine_after _ L)).edits (Edits.loseTone ..)

theorem NoFinal.profileRead (h : NoFinal s) (o : Order) (a b c d e : Nat) (x : List Byte) :
    NoFinal (s.profileRead o a b c d e x) := by
  have applied : NoFinal (if ha : a < 96 then s.applyProfile ⟨a, ha⟩ x else s) := by
    split
    · exact h.applyProfile ..
    · exact h
  unfold State.profileRead
  dsimp only
  split
  · exact applied.completeOrder _
  · exact applied.of_work

theorem NoFinal.planPart (h : NoFinal s) (o : Order) (a b x : List Byte) : NoFinal (s.planPart o a b x) := by
  unfold State.planPart
  dsimp only
  split
  · exact NoFinal.completeOrder h.of_work _
  · exact h.of_work

/-- New settings may take the room check out of a sequence, which keeps its kind (R166). -/
theorem NoFinal.settingsCopied (h : NoFinal s) (st : Settings) (a b : Nat) :
    NoFinal { s with settings := st, journal := (s.journal.stopAbsolute a).dropRoomRead b } := by
  have stopped : (s.journal.stopAbsolute a).work = s.journal.work := by
    unfold Journal.stopAbsolute
    split <;> rfl
  rcases (s.journal.stopAbsolute a).dropRoomRead_cases b with e | ⟨k, n, w, hw, -, e⟩
  · exact h.of_work ((congrArg Journal.work e).trans stopped)
  · exact .of_kind (congrArg Journal.work e) (h.kind ⟨k, n, w, .roomRead⟩ (stopped.symm.trans hw))

theorem NoFinal.applySettings (h : NoFinal s) (bs : List Byte) : NoFinal (s.applySettings bs) := by
  have copied := h.settingsCopied
  have counted : ∀ {u : State} (n : Nat), NoFinal u → NoFinal (u.changeEnabled n) := fun {u} n hu =>
    NoFinal.edits (s := { u with pool := { u.pool with enabledCount := n } }) hu.of_work
      (Edits.refl.recounts (ps := allParts) (by decide) n allRx)
  unfold State.applySettings
  dsimp only
  repeat' split
  · exact (copied ..).trigger
  · exact copied ..
  · exact (counted _ (copied ..)).trigger
  · exact counted _ (copied ..)

theorem NoFinal.settingsPart (h : NoFinal s) (o : Order) (b x : List Byte) : NoFinal (s.settingsPart o b x) := by
  unfold State.settingsPart
  dsimp only
  split
  · exact (h.applySettings _).completeOrder _
  · exact h.of_work

theorem NoFinal.executorDone (h : NoFinal s) (d : List Byte) : NoFinal (s.executorDone d) := by
  unfold State.executorDone
  split
  · exact h
  · exact h.of_work
  · unfold State.lookDone
    dsimp only
    split <;> exact h.of_work
  · unfold State.takeReadDone
    split
    · exact h.of_work
    · exact h.becomeIdle
  · exact h.orderTaken ..
  · rename_i w _
    cases w
    case engine => exact h
    case profiles => exact h.profileRead ..
    case plan => exact h.planPart ..
    case settings => exact h.settingsPart ..
  · exact h.of_work
  · exact NoFinal.becomeIdle h.of_work

theorem NoFinal.unitDone (h : NoFinal s) (u : MemUnit) (d : List Byte) : NoFinal (s.unitDone u d) := by
  cases u
  case journal => exact h.journalDone d
  case executor => exact h.executorDone d
  case start => exact h

/-! ### The start sequence -/

theorem NoFinal.started (s : State) (q : StartSeq) : NoFinal (s.started q) := .of_idle rfl

theorem NoFinal.startAt (h : NoFinal s) (q : StartSeq) : NoFinal (s.startAt q) := h.of_work

theorem NoFinal.beginEntries (h : NoFinal s) : NoFinal s.beginEntries := h.of_work

theorem NoFinal.startProfile (h : NoFinal s) (q : StartSeq) (L : LineNo) (d : List Byte) :
    NoFinal (s.startProfile q L d) := by
  have stored : ∀ (new : Profile) (x : EntryMarks), NoFinal ((s.setProfile L new).setMarks L x) :=
    fun _ _ => h.of_work
  unfold State.startProfile
  dsimp only
  split
  · exact (stored _ _).startAt _
  · exact (stored _ _).beginEntries.startAt _

theorem NoFinal.startDone (h : NoFinal s) (d : List Byte) : NoFinal (s.startDone d) := by
  unfold State.startDone
  split
  · exact h
  · split
    · unfold State.startSettings
      dsimp only
      repeat' split
      · exact h.of_work
      · exact h.of_work
      · exact .of_idle rfl
    · unfold State.startPlan
      dsimp only
      split <;> exact h.of_work
    · exact h.startProfile ..
    · unfold State.startEntryDone
      split <;> exact h.of_work
    · rw [State.startEnds_eq]
      split
      · exact .started ..
      · exact (NoFinal.started ..).owedWork

/-! ### The sense links, the highway and the strobe instant -/

theorem NoFinal.deliver (h : NoFinal s) (g : LinkNo) (fr : Frame) (e : Fin 16) : NoFinal (s.deliver g fr e) :=
  State.foldl_keeps (f := State.deliverAt g fr e) (fun _ hu => hu.takeSample ..) positions h

theorem NoFinal.setFirstSample (h : NoFinal s) (g : LinkNo) (b : Bool) : NoFinal (s.setFirstSample g b) := h.of_work

theorem NoFinal.restoreLink (h : NoFinal s) (g : LinkNo) (fr : Frame) : NoFinal (s.restoreLink g fr) := by
  have up : NoFinal (s.reportUp g fr) := by
    unfold State.reportUp
    split
    · exact NoFinal.stage h.of_work ..
    · exact h.of_work
  have reseeded : NoFinal ((s.reportUp g fr).reseedGroup g) :=
    State.foldl_keeps (f := State.reseedAt g) (fun _ hu => hu.of_work) positions up
  rw [State.restoreLink_eq]
  exact (reseeded.deliver g fr 0).setFirstSample g false

theorem NoFinal.senseFrame (h : NoFinal s) (g : LinkNo) (bs : List Byte) : NoFinal (s.senseFrame g bs).1 := by
  unfold State.senseFrame
  repeat' split
  · unfold State.acceptFrame
    dsimp only
    split
    · exact h
    · exact NoFinal.deliver h.of_work ..
  · unfold State.runFrame
    dsimp only
    split
    · exact NoFinal.restoreLink h.of_work ..
    · exact h.of_work
  · exact h
  · exact h.of_work
  · exact h

theorem NoFinal.acceptSymbol (h : NoFinal s) (r : RxNo) (L : LineNo) (x : Symbol) :
    NoFinal (s.acceptSymbol r L x) := by
  have taken := h.edits (Edits.refl.takeSymbol (ps := allParts) (L := L) (by decide) (by decide) (by decide)
    (toneDigit r x))
  unfold State.acceptSymbol
  split
  · unfold State.countSymbol
    split
    · exact taken.of_work
    · exact taken
  · exact h.stage ..

theorem NoFinal.receiverFrame {a : State × List RxNo} (h : NoFinal a.1) (slots : List (BitVec 16)) (r : RxNo) :
    NoFinal (State.receiverFrame slots a r).1 := by
  have written : ∀ x : Receiver, NoFinal (a.1.setReceiver r x) := fun _ => h.of_work
  unfold State.receiverFrame
  dsimp only
  split
  · split
    · unfold State.endBlock
      dsimp only
      split
      · exact (written _).acceptSymbol ..
      · exact written _
    · exact written _
  · exact h

theorem NoFinal.receiversTake (h : NoFinal s) (slots : List (BitVec 16)) : NoFinal (s.receiversTake slots).1 := by
  have key : ∀ (rs : List RxNo) {a : State × List RxNo}, NoFinal a.1 →
      NoFinal (rs.foldl (State.receiverFrame slots) a).1 := by
    intro rs
    induction rs with
    | nil => exact id
    | cons r rs ih => exact fun ha => ih (ha.receiverFrame slots r)
  exact key _ h

theorem NoFinal.highwayFrame (h : NoFinal s) (slots : List (BitVec 16)) : NoFinal (s.highwayFrame slots).1 := by
  have set : ∀ x : Highway, NoFinal (s.setHighway x) := fun _ => h.of_work
  unfold State.highwayFrame
  repeat' split
  · have taken := (set { s.highway with credit := true }).receiversTake slots
    revert taken
    generalize State.receiversTake (s.setHighway { s.highway with credit := true }) slots = r
    exact id
  · unfold State.lostFrame
    dsimp only
    split
    · dsimp only
      split
      · exact (set _).stage ..
      · exact set _
    · exact set _
  · exact set _
  · exact h

theorem NoFinal.highwayInstant (h : NoFinal s) : NoFinal s.highwayInstant.1 := by
  unfold State.highwayInstant
  dsimp only
  repeat' split
  · exact NoFinal.stage h.of_work ..
  · exact h.of_work
  · exact h

theorem NoFinal.closeLinks (h : NoFinal s) : NoFinal s.closeLinks := by
  refine State.foldl_keeps (fun g hu => ?_) allLinks h
  unfold State.closeLink
  dsimp only
  split
  · exact NoFinal.stage hu.of_work ..
  · exact hu.of_work

theorem NoFinal.batchTicked (h : NoFinal s) : NoFinal s.batchTicked := by
  have delayed : NoFinal s.advanceTime.tickDelay := by
    unfold State.tickDelay
    dsimp only
    split
    · exact NoFinal.trigger h.of_work
    · exact h.of_work
  unfold State.batchTicked State.tickAbsolute
  dsimp only
  split
  · exact NoFinal.trigger delayed.of_work
  · exact delayed.of_work

theorem NoFinal.tickPoll (h : NoFinal s) : NoFinal s.tickPoll := by
  unfold State.tickPoll
  repeat' split
  · exact (NoFinal.journalPoll h.of_work).executorPoll
  · exact h.of_work
  · exact h

theorem NoFinal.strobeInstant (h : NoFinal s) : NoFinal s.strobeInstant.1 := by
  have ticked := h.batchTicked
  cases hl : s.run.control.live
  · rwa [State.strobeInstant_of_not_live _ hl]
  · rw [State.strobeInstant_of_live _ hl]
    exact (ticked.tickPoll.testGoesOn (.tickTest _)).closeLinks

/-! ### The port and the control state -/

/-- The control state and the port are kept. -/
structure KeepsControl (s t : State) : Prop where
  control : t.run.control = s.run.control
  port : t.run.port = s.run.port

/-- `t` has the control state and the port of `s`, and no final batch that `s` has not: or the part has just stopped. -/
inductive StaysOrStops (s t : State) : Prop
  | kept (control : KeepsControl s t) (final : NoFinal s → NoFinal t)
  | stopped (u : State) (e : t = u.enterStopped)

theorem StaysOrStops.of_run (e : t.run = s.run) (final : NoFinal s → NoFinal t) : StaysOrStops s t :=
  .kept ⟨congrArg _ e, congrArg _ e⟩ final

/-- The port quiet where nothing is granted, and a final batch in STOPPING only. -/
structure Calm (s : State) : Prop where
  port : s.portQuiet
  final : s.finalInStopping

theorem NoFinal.finalInStopping (h : NoFinal s) : s.finalInStopping := fun w hw hk => absurd hk (h.kind w hw)

/-- Outside STOPPING no final batch is in progress. -/
theorem Calm.noFinal (h : Calm s) (hc : s.run.control ≠ .stopping) : NoFinal s :=
  ⟨fun w hw hk => hc (h.final w hw hk)⟩

theorem Calm.of_free (hp : s.run.port = .free) (h : s.finalInStopping) : Calm s := ⟨fun _ => hp, h⟩

/-- In a control state in which the port may be BUSY. -/
theorem Calm.of_control {c : ControlState} (hc : s.run.control = c) (h : s.finalInStopping)
    (hq : ¬(c = .stopped ∨ c = .frozen) := by decide) : Calm s :=
  ⟨fun h' => absurd h' (by rwa [hc]), h⟩

theorem Calm.enterStopped (s : State) : Calm s.enterStopped := .of_free rfl nofun

theorem Calm.of_staysOrStops (h : Calm s) (k : StaysOrStops s t) : Calm t := by
  cases k
  case stopped u e =>
    rw [e]
    exact .enterStopped u
  case kept k hn =>
    obtain ⟨hc, hp⟩ := k
    refine ⟨fun hq => hp.trans (h.port (by rwa [hc] at hq)), fun w hw hk => hc.trans ?_⟩
    by_contra hs
    exact (hn (h.noFinal hs)).kind w hw hk

theorem Calm.of_run (h : Calm s) (e : t.run = s.run) (final : NoFinal s → NoFinal t) : Calm t :=
  h.of_staysOrStops (.of_run e final)

theorem StaysOrStops.free (k : StaysOrStops s t) (h : s.run.port = .free) : t.run.port = .free := by
  cases k
  case stopped u e =>
    rw [e]
    rfl
  case kept k _ => exact k.port.trans h

/-! ### The end of a command -/

theorem NoFinal.grantShared (h : NoFinal s) : NoFinal s.grantShared := by
  have granted : NoFinal s.journalGranted := by
    unfold State.journalGranted
    split
    · rename_i hw
      have hk := h.kind _ hw
      split <;> exact .of_kind rfl hk
    · exact h
  unfold State.grantShared
  repeat' split
  · exact h.of_work
  · exact granted.of_work
  · exact granted.of_work
  · exact h.of_work
  · exact h

theorem State.grantShared_control (s : State) : s.grantShared.run.control = s.run.control := by
  have hj : ∀ q, (s.grantJournal q).run.control = s.run.control := fun q =>
    show s.journalGranted.run.control = _ from congrArg RunControl.control s.journalGranted_run
  unfold State.grantShared
  repeat' split
  · rfl
  · exact hj _
  · exact hj _
  · rfl
  · rfl

/-- The port is granted in STARTING, RUNNING and STOPPING alone, the part freezes at a free port, and the final batch
begins in STOPPING. -/
theorem Calm.settle (h : Calm s) : Calm s.settle := by
  cases hp : s.run.port
  case busy a l => rwa [State.settle_of_busy hp]
  case free =>
    cases hc : s.run.control
    case starting =>
      have hn := h.noFinal (by rw [hc]; nofun)
      rw [State.settle_of_starting hc hp]
      unfold State.grantStart
      split
      · rename_i q _
        exact .of_control (s := s.occupy .start q) hc (hn.of_work (t := s.occupy .start q)).finalInStopping
      · exact h
    case running =>
      have hn := h.noFinal (by rw [hc]; nofun)
      rw [State.settle_of_running hc hp]
      split
      · exact .of_free hp (hn.of_work (t := s.enterFrozen)).finalInStopping
      · exact .of_control (s.grantShared_control.trans hc) hn.grantShared.finalInStopping
    case stopping =>
      rw [State.settle_of_stopping hc hp]
      have hg : s.beginFinal.grantShared.run.control = .stopping := by
        rw [State.grantShared_control, State.beginFinal_run, hc]
      exact .of_control hg fun _ _ _ => hg
    case stopped => rwa [State.settle_of_quiet (.inr (.inl hc))]
    case frozen => rwa [State.settle_of_quiet (.inl hc)]
    case memoryError => rwa [State.settle_of_quiet (.inr (.inr hc))]

/-! ### The outcomes of an access -/

/-- What leaves the Run Control alone follows. -/
theorem KeepsControl.andThen {u : State} (h : KeepsControl s u) (e : t.run = u.run) : KeepsControl s t :=
  ⟨(congrArg _ e).trans h.control, (congrArg _ e).trans h.port⟩

/-- A cause may be raised. -/
theorem KeepsControl.raiseIfNew (s : State) (o : Bool) (c : Cause) : KeepsControl s (s.raiseIfNew o c) := by
  unfold State.raiseIfNew
  split <;> exact ⟨rfl, rfl⟩

theorem KeepsControl.foundFull (s : State) (w : Work) : KeepsControl s (s.foundFull w) := by
  have raised := KeepsControl.raiseIfNew (s.setJournal { s.journal with full := true }) s.journal.full .full
  exact ⟨(congrArg _ (State.afterRecords_run _ w)).trans raised.control,
    (congrArg _ (State.afterRecords_run _ w)).trans raised.port⟩

theorem KeepsControl.roomChecked (s : State) (w : Work) (d : List Byte) : KeepsControl s (s.roomChecked w d) := by
  have raised := KeepsControl.raiseIfNew (s.setJournal { s.journal with roomLow := true }) s.journal.roomLow .roomLow
  unfold State.roomChecked
  split
  · exact ⟨rfl, rfl⟩
  · exact ⟨raised.control, raised.port⟩

/-- The end of the final batch stops the part; every other sequence ends with a cause raised at most. -/
theorem StaysOrStops.endWork (s : State) (w : Work) : StaysOrStops s (s.endWork w) := by
  have final : NoFinal s → NoFinal (s.endWork w) := fun _ => .endWork s w
  have raised : KeepsControl s (if w.wrote = 0 then s else s.raiseCause .batch) := by
    split <;> exact ⟨rfl, rfl⟩
  revert final raised
  unfold State.endWork
  generalize (if w.wrote = 0 then s else s.raiseCause .batch) = u
  intro final raised
  revert final
  dsimp only
  split
  · exact fun _ => .stopped _ rfl
  · split
    · exact .kept (raised.andThen (by rw [State.owedWork_run]; rfl))
    · exact .kept (raised.andThen (by rfl))
  · split
    · exact .kept (raised.andThen (by rw [State.owedWork_run, State.restartAbsolute_run]; rfl))
    · exact .kept (raised.andThen (by rw [State.restartAbsolute_run]; rfl))

/-- The Journal Unit's step raises causes, and the end of the final batch stops the part. -/
theorem StaysOrStops.journalDone (s : State) (d : List Byte) : StaysOrStops s (s.journalDone d) := by
  have final : NoFinal s → NoFinal (s.journalDone d) := fun h => h.journalDone d
  revert final
  unfold State.journalDone
  split
  · exact .of_run rfl
  · rename_i w _
    split
    · unfold State.ownerRead
      repeat' split
      · exact .of_run s.recovered_run
      · exact .of_run rfl
      · exact .of_run rfl
      · exact .kept (KeepsControl.foundFull s w)
    · exact .of_run rfl
    · exact .of_run (s.recordWritten_run w)
    · exact .kept (KeepsControl.roomChecked s w d)
    · exact .of_run rfl
    · exact .of_run rfl
    · exact fun _ => .endWork s w

theorem StaysOrStops.executorDone (s : State) (d : List Byte) : StaysOrStops s (s.executorDone d) := by
  have kept : KeepsControl s (s.executorDone d) := by
    unfold State.executorDone
    split
    case h_8 => exact (KeepsControl.raiseIfNew s false .order).andThen (State.becomeIdle_run _)
    all_goals exact KeepsControl.andThen ⟨rfl, rfl⟩ (by simp)
  exact .kept kept fun h => h.executorDone d

theorem StaysOrStops.unitDone (s : State) (u : MemUnit) (d : List Byte) : StaysOrStops s (s.unitDone u d) := by
  cases u
  case journal => exact .journalDone s d
  case executor => exact .executorDone s d
  case start => exact .of_run rfl id

theorem State.startDone_port (d : List Byte) (h : s.run.port = .free) : (s.startDone d).run.port = .free := by
  unfold State.startDone
  split
  · exact h
  · split
    · unfold State.startSettings
      dsimp only
      repeat' split
      · exact h
      · exact h
      · rfl
    · unfold State.startPlan
      dsimp only
      split <;> exact h
    · unfold State.startProfile
      dsimp only
      split <;> exact h
    · unfold State.startEntryDone
      split <;> exact h
    · rw [(BeginsWork.startEnds s _).rest]
      exact (congrArg RunControl.port (s.started_run _)).trans h

/-- The retry ends MEMORY_ERROR, where no final batch was in progress. -/
theorem Calm.retryDone (hp : s.run.port = .free) (h : NoFinal s) (u : MemUnit) (d : List Byte) :
    Calm (s.retryDone u d) := by
  cases hf : s.run.freezeAsked
  · rw [State.retryDone_of_not_freeze hf]
    generalize hv : s.setRun { s.run with failed := none, control := .running } = v
    have hvp : v.run.port = .free := by rw [← hv]; exact hp
    have hvn : NoFinal v := by rw [← hv]; exact h.of_work
    have k := StaysOrStops.unitDone v u d
    refine .of_free ((congrArg RunControl.port (State.returned_run _)).trans (k.free hvp)) ?_
    exact (hvn.unitDone u d).returned.finalInStopping
  · rw [State.retryDone_of_freeze hf]
    generalize hv : (s.setRun { s.run with failed := none }).enterFrozen = v
    have hvp : v.run.port = .free := by rw [← hv]; exact hp
    have hvn : NoFinal v := by rw [← hv]; exact h.of_work
    exact .of_free ((StaysOrStops.unitDone v u d).free hvp) (hvn.unitDone u d).finalInStopping

theorem Calm.accessDone (h : Calm s) (d : List Byte) : Calm (s.accessDone d) := by
  have freed : Calm s.freePort := .of_free rfl h.final
  unfold State.accessDone
  split
  · exact h
  · rename_i a live _
    split
    · dsimp only
      split
      · rename_i hc
        have hn := freed.noFinal (fun hs => nomatch hc.symm.trans hs)
        exact (Calm.of_free (State.startDone_port d rfl) (hn.startDone d).finalInStopping).settle
      · exact (freed.of_staysOrStops (.unitDone _ a.unit d)).settle
      · split
        · exact (freed.of_staysOrStops (.unitDone _ a.unit d)).settle
        · exact freed.settle
      · rename_i hc
        have hn := freed.noFinal (fun hs => nomatch hc.symm.trans hs)
        exact (Calm.retryDone rfl hn a.unit d).settle
      · exact freed
      · exact freed
    · exact h

theorem Calm.accessFailed (h : Calm s) : Calm s.accessFailed := by
  unfold State.accessFailed
  split
  · exact h
  · split
    · exact .enterStopped _
    · rename_i hc
      have hn := h.noFinal (fun hs => nomatch hc.symm.trans hs)
      exact .of_free rfl (hn.of_work (t := State.raiseCause (s.setRun _) _)).finalInStopping
    · exact .of_free rfl h.final
    · exact .enterStopped _
    · exact .of_free rfl h.final
    · exact .of_free rfl h.final

/-! ### The Run Control's commands -/

theorem Calm.runStart (h : Calm s) : Calm s.runStart := by
  unfold State.runStart
  split
  · rename_i hc
    have hn := h.noFinal (by rw [hc]; nofun)
    exact Calm.settle (.of_control (c := .starting) rfl (hn.of_work (t := s.setRun _)).finalInStopping)
  · exact h

theorem Calm.runStop (h : Calm s) : Calm s.runStop := by
  unfold State.runStop
  split
  · exact Calm.settle (.of_control (c := .stopping) rfl fun _ _ _ => rfl)
  · exact .enterStopped _
  · exact .enterStopped _
  · exact .enterStopped _
  · exact h
  · exact h

theorem Calm.freeze (h : Calm s) (b : Bool) : Calm (s.freeze b) := by
  by_cases hthaw : s.run.control = .frozen ∧ b = false
  · obtain ⟨hc, rfl⟩ := hthaw
    have hn := h.noFinal (by rw [hc]; nofun)
    have returned : NoFinal s.thawed.returned := NoFinal.returned (hn.of_work (t := s.thawed))
    have hrun : s.thawed.returned.run.control = .running := congrArg RunControl.control s.thawed.returned_run
    rw [State.freeze_thaws hc]
    exact Calm.settle (.of_control hrun returned.finalInStopping)
  · rw [State.freeze_of_not_thaw hthaw]
    exact Calm.settle ⟨h.port, h.final⟩

theorem Calm.resume (h : Calm s) : Calm s.resume := by
  unfold State.resume
  split
  · rename_i a hc _ _
    have hn := h.noFinal (by rw [hc]; nofun)
    exact .of_control (s := s.retry a) hc (hn.of_work (t := s.retry a)).finalInStopping
  · exact h

/-! ### The commands -/

theorem Calm.reset (s : State) : Calm s.pinReset ∧ Calm s.softReset :=
  ⟨.of_free rfl nofun, .of_free rfl nofun⟩

theorem Calm.execStrobe {c : Instr} (hc : c.isStrobe = true) (h : Calm s) (e : exec c s = .next t) : Calm t := by
  have h1 := (h.of_run s.strobeInstant_run fun hn => hn.strobeInstant).settle
  rcases exec_of_isStrobe hc s with rfl | ⟨due, he⟩
  · cases e
    exact h1
  · rw [he] at e
    cases e
    exact State.ite_keeps _ h h1

theorem Calm.execSample {c : Instr} {x : Sample} (hc : c.sampleOf = some (L, x)) (h : Calm s)
    (e : exec c s = .next t) : Calm t := by
  obtain ⟨due, he⟩ := exec_of_sampleOf hc s
  rw [he] at e
  cases e
  exact State.ite_keeps _ h (h.of_run (s.takeSample_run L x) fun hn => hn.takeSample L x).settle

theorem Calm.execOrder {due : Bool} {d : List Byte} (h : Calm s) (e : s.orderRow due d = .next t) : Calm t := by
  cases e
  exact State.ite_keeps _ h (h.accessDone d)

theorem Calm.senseFrame (h : Calm s) (g : LinkNo) (b : List Byte) : Calm (s.senseFrame g b).1.settle :=
  (h.of_run (s.senseFrame_run g b) fun hn => hn.senseFrame g b).settle

theorem Calm.highwayInstant (h : Calm s) : Calm s.highwayInstant.1.settle :=
  (h.of_run s.highwayInstant_run fun hn => hn.highwayInstant).settle

theorem Calm.highwayFrame (h : Calm s) (x : List (BitVec 16)) : Calm (s.highwayFrame x).1.settle :=
  (h.of_run (s.highwayFrame_run x) fun hn => hn.highwayFrame x).settle

theorem Calm.exec {c : Instr} (h : Calm s) (e : exec c s = .next t) : Calm t := by
  cases c
  case strobeInstant => exact h.execStrobe rfl e
  case linkLost g => exact h.execStrobe rfl e
  case batchDelayExpiry => exact h.execStrobe rfl e
  case batchAbsoluteExpiry => exact h.execStrobe rfl e
  case orderPoll => exact h.execStrobe rfl e
  case testSettleEnd => exact h.execStrobe rfl e
  case stimulusWaitEnd => exact h.execStrobe rfl e
  case pulseEnd => exact h.execStrobe rfl e
  case dischargeEnd => exact h.execStrobe rfl e
  case senseFrame g b => cases e; exact h.senseFrame g b
  case linkRestored g b => cases e; exact State.ite_keeps _ h (h.senseFrame g b)
  case seizeConfirm => exact h.execSample rfl e
  case release => exact h.execSample rfl e
  case parkedRelease => exact h.execSample rfl e
  case digitEnd => exact h.execSample rfl e
  case firstDigitTimeout => exact h.execSample rfl e
  case interdigitTimeout => exact h.execSample rfl e
  case toneWindowExpiry => exact h.execSample rfl e
  case queueWaitNotice => exact h.execSample rfl e
  case conditionConfirm => exact h.execSample rfl e
  case conditionClear => exact h.execSample rfl e
  case powerCrossRaise => exact h.execSample rfl e
  case powerCrossClear => exact h.execSample rfl e
  case highwayInstant => cases e; exact h.highwayInstant
  case highwayLost => cases e; exact State.ite_keeps _ h h.highwayInstant
  case highwayFrame x => cases e; exact h.highwayFrame x
  case highwayRestored x => cases e; exact State.ite_keeps _ h (h.highwayFrame x)
  case blockEnd r x => cases e; exact State.ite_keeps _ h (h.highwayFrame x)
  case memoryAccessDone d => cases e; exact h.accessDone d
  case memoryAccessError => cases e; exact h.accessFailed
  case memoryAccessTimeout => cases e; exact h.accessFailed
  case block => exact h.execOrder e
  case unblock => exact h.execOrder e
  case attachReceiver => exact h.execOrder e
  case detachReceiver => exact h.execOrder e
  case resumeCollection => exact h.execOrder e
  case reloadProfiles => exact h.execOrder e
  case reloadPlan => exact h.execOrder e
  case reloadSettings => exact h.execOrder e
  case lineTest => exact h.execOrder e
  case selfCheck => exact h.execOrder e
  case readingDone x => cases e; exact (h.of_run (s.readingDone_run x) fun hn => hn.readingDone x).settle
  case loopWatchRead v => cases e; exact (h.of_run (s.loopWatch_run v) fun hn => hn.loopWatch v).settle
  case runStart => cases e; exact h.runStart
  case runStop => cases e; exact h.runStop
  case freeze b => cases e; exact h.freeze b
  case resume => cases e; exact h.resume
  case nudge v => cases e; exact (h.of_run (by simp) fun hn => hn.journalPoll.executorPoll).settle
  case ignoredRegisterWrite => cases e; exact h
  case enables m => cases e; exact ⟨h.port, h.final⟩
  case areaBase v => cases e; exact State.ite_keeps _ h ⟨h.port, h.final⟩
  case cause v => cases e; exact ⟨h.port, h.final⟩
  case softReset => cases e; exact (Calm.reset s).2
  case pinReset => cases e; exact (Calm.reset s).1

/-- Settles O4: in STOPPED and FROZEN nothing is granted, and the final batch begins in STOPPING, which it ends. -/
theorem portQuietAndFinalBatchKept : Obligations.PortQuietAndFinalBatchKept := by
  intro s t hp hf e
  have h : Calm t := by
    unfold step at e
    split at e
    · cases e
      exact ⟨hp, hf⟩
    · rename_i rest _
      exact Calm.exec (s := s.withPending rest) ⟨hp, hf⟩ e
  exact ⟨h.port, h.final⟩

end Sys2Proof.Machine

/-! ## The batch timers at a millisecond (R161, R162) -/

namespace Sys2Proof.Machine

-- One theorem at a time, as above.
set_option Elab.async false

variable {s t u : State}

/-! ### What leaves the batch timers and the staged records alone -/

/-- The staged records and the batch delay timer are kept, and the batch absolute timer where it does not run. -/
structure KeepsTimers (s t : State) : Prop where
  queue : t.journal.queue = s.journal.queue
  delay : t.journal.delay = s.journal.delay
  absolute : s.journal.absolute.timer.running = false → t.journal.absolute = s.journal.absolute

theorem KeepsTimers.refl (s : State) : KeepsTimers s s := ⟨rfl, rfl, fun _ => rfl⟩

theorem KeepsTimers.trans (h : KeepsTimers s t) (k : KeepsTimers t u) : KeepsTimers s u where
  queue := k.queue.trans h.queue
  delay := k.delay.trans h.delay
  absolute ha := (k.absolute (by rwa [h.absolute ha])).trans (h.absolute ha)

theorem KeepsTimers.of_journal (h : t.journal = s.journal) : KeepsTimers s t :=
  ⟨congrArg _ h, congrArg _ h, fun _ => congrArg _ h⟩

/-- A timer that does not run is stopped as it stands. -/
theorem LimitTimer.stop_of_not_running {x : LimitTimer} (h : x.timer.running = false) :
    { x with timer := x.timer.stop } = x := by
  obtain ⟨⟨v, r⟩, l⟩ := x
  cases h
  rfl

theorem KeepsTimers.beginBatch (s : State) (k : WorkKind) : KeepsTimers s (s.beginBatch k) :=
  ⟨rfl, rfl, LimitTimer.stop_of_not_running⟩

theorem KeepsTimers.trigger (s : State) : KeepsTimers s s.trigger := by
  rcases s.trigger_cases with ⟨_, e⟩ | ⟨_, _, _, e⟩ | ⟨_, _, e⟩ <;> rw [e]
  · exact .refl s
  · exact .beginBatch s .normal
  · exact ⟨rfl, rfl, fun _ => rfl⟩

theorem KeepsTimers.journalPoll (s : State) : KeepsTimers s s.journalPoll := by
  unfold State.journalPoll
  repeat' split
  all_goals exact ⟨rfl, rfl, fun _ => rfl⟩

theorem KeepsTimers.tickPoll (s : State) : KeepsTimers s s.tickPoll := by
  unfold State.tickPoll
  repeat' split
  · have restarted : KeepsTimers s (s.setExecutor { s.executor with poll := Timer.started }) := .of_journal rfl
    exact (restarted.trans (.journalPoll _)).trans (.of_journal (State.executorPoll_journal _))
  · exact .of_journal rfl
  · exact .refl s

theorem KeepsTimers.setTest (h : KeepsTimers s t) (e : TestEngine) : KeepsTimers s (t.setTest e) :=
  h.trans (.of_journal rfl)

theorem KeepsTimers.returnLine (h : KeepsTimers s t) (L : LineNo) : KeepsTimers s (t.returnLine L) := by
  refine h.trans ?_
  unfold State.returnLine State.changeHook
  split <;> exact ⟨rfl, rfl, fun _ => rfl⟩

theorem KeepsTimers.completeOrder (h : KeepsTimers s t) (r : OrderResult) : KeepsTimers s (t.completeOrder r) := by
  refine h.trans ?_
  unfold State.completeOrder
  split <;> exact .of_journal rfl

theorem KeepsTimers.finishTest (h : KeepsTimers s t) : KeepsTimers s t.finishTest := by
  unfold State.finishTest
  split
  · exact h
  · dsimp only
    exact ((h.setTest _).returnLine _).completeOrder _

theorem KeepsTimers.testGoesOn (g : TestGoesOn s t) : KeepsTimers s t := by
  cases g with
  | sets e => exact (KeepsTimers.refl s).setTest e
  | ends e => exact ((KeepsTimers.refl s).setTest e).finishTest

theorem KeepsTimers.tickTest (s : State) : KeepsTimers s s.tickTest.1 := .testGoesOn (.tickTest s)

/-- Links that are not lost close their periods in their own records. -/
theorem State.foldl_closeLink_journal {gs : List LinkNo} (hn : gs.Nodup) (h : ∀ g ∈ gs, (s.link g).losing = false) :
    (gs.foldl State.closeLink s).journal = s.journal := by
  induction gs generalizing s with
  | nil => rfl
  | cons g gs ih =>
    obtain ⟨hg, hn⟩ := List.nodup_cons.mp hn
    have closed := State.closeLink_of_not_losing (h g List.mem_cons_self)
    rw [List.foldl_cons, ih hn fun k hk => ?_, closed]
    · rfl
    · rw [State.closeLink_link, if_neg fun e : k = g => hg (e ▸ hk)]
      exact h k (List.mem_cons_of_mem g hk)

theorem KeepsTimers.settle (s : State) : KeepsTimers s s.settle where
  queue := s.settle_queue
  delay := s.settle_delay
  absolute ha := by
    cases hp : s.run.port
    case busy a l => rw [State.settle_of_busy hp]
    case free =>
      cases hc : s.run.control
      case starting =>
        rw [State.settle_of_starting hc hp]
        unfold State.grantStart
        split <;> rfl
      case running =>
        rw [State.settle_of_running hc hp]
        split
        · rfl
        · exact s.grantShared_absolute
      case stopping =>
        rw [State.settle_of_stopping hc hp, State.grantShared_absolute]
        unfold State.beginFinal
        split
        · exact LimitTimer.stop_of_not_running ha
        · rfl
      case stopped => rw [State.settle_of_quiet (.inr (.inl hc))]
      case frozen => rw [State.settle_of_quiet (.inl hc)]
      case memoryError => rw [State.settle_of_quiet (.inr (.inr hc))]

/-- What follows the batch timers in a strobe instant that loses no link. -/
theorem KeepsTimers.afterBatchTimers (h : ∀ g, (s.link g).losing = false) :
    KeepsTimers s.batchTicked s.strobeInstant.1.settle := by
  refine KeepsTimers.trans ?_ (.settle _)
  cases hl : s.run.control.live
  · rw [State.strobeInstant_of_not_live _ hl]
    exact .refl _
  · rw [State.strobeInstant_of_live _ hl]
    have closed : s.ticked.closeLinks.journal = s.ticked.journal :=
      State.foldl_closeLink_journal allLinks_nodup fun g _ => by rw [State.ticked_link]; exact h g
    exact ((KeepsTimers.tickPoll _).trans (.tickTest _)).trans (.of_journal closed)

/-! ### The two timers -/

/-- The batch delay timer a millisecond on, before its trigger. -/
def State.delayTicked (s : State) : State := s.setJournal { s.journal with delay := s.journal.delay.tick }

/-- The batch absolute timer a millisecond on, before its trigger. -/
def State.absoluteTicked (s : State) : State := s.setJournal { s.journal with absolute := s.journal.absolute.tick }

theorem State.tickDelay_of_expires (h : s.journal.delay.expires = true) : s.tickDelay = s.delayTicked.trigger :=
  if_pos h

theorem State.tickDelay_of_not_expires (h : s.journal.delay.expires = false) : s.tickDelay = s.delayTicked :=
  if_neg (by rw [h]; exact Bool.false_ne_true)

theorem State.tickAbsolute_of_expires (h : s.journal.absolute.expires = true) :
    s.tickAbsolute = s.absoluteTicked.trigger := if_pos h

theorem KeepsTimers.tickAbsolute (s : State) : KeepsTimers s.absoluteTicked s.tickAbsolute := by
  unfold State.tickAbsolute
  dsimp only
  split
  · exact .trigger s.absoluteTicked
  · exact .refl s.absoluteTicked

theorem LimitTimer.expires_of {x : LimitTimer} (hr : x.timer.running = true) (hl : x.limit ≤ x.timer.value + 1) :
    x.expires = true := by
  simp [LimitTimer.expires, hr, hl]

/-- An expired timer is a millisecond further on, and stopped. -/
theorem LimitTimer.tick_of_expires {x : LimitTimer} (hr : x.timer.running = true)
    (hl : x.limit ≤ x.timer.value + 1) : x.tick = ⟨⟨x.timer.value + 1, false⟩, x.limit⟩ := by
  rw [LimitTimer.tick, if_pos hr, if_pos hl]

theorem Stages.delayTicked (s : State) : Stages s s.advanceTime.delayTicked :=
  .of_journal rfl rfl rfl rfl rfl id id

/-- What follows a strobe instant's batch timers stages and drops, and takes nothing back. -/
theorem Stages.afterBatchTimers (s : State) : Stages s.batchTicked s.strobeInstant.1.settle := by
  refine Stages.trans ?_ (.settle _)
  cases hl : s.run.control.live
  · rw [State.strobeInstant_of_not_live _ hl]
    exact .refl _
  · rw [State.strobeInstant_of_live _ hl]
    exact (Ticks.refl s.batchTicked).tickPoll.tickTest.stages.trans (.closeLinks allLinks _)

/-- Settles O39: each timer's expiry is a trigger inside the strobe instant, and what follows it there lets the trigger
and the stopped timer stand. -/
theorem batchTimerExpiryIsATrigger : Obligations.BatchTimerExpiryIsATrigger := by
  refine ⟨fun s hr hl => ⟨s.strobeInstant.1.settle, ?_, (Keeps.strobeInstant s).time, ?_, fun hlinks => ?_⟩,
    fun s hd hr hl => ⟨s.strobeInstant.1.settle, ?_, (Keeps.strobeInstant s).time, ?_, fun hlinks => ?_⟩⟩
  · exact congrArg Host.Outcome.next (if_pos (LimitTimer.expires_of hr hl))
  · have ticked : Stages s.advanceTime.delayTicked.trigger s.batchTicked := by
      rw [← State.tickDelay_of_expires (s := s.advanceTime) (LimitTimer.expires_of hr hl)]
      exact (Ticks.refl _).tickAbsolute.stages
    exact triggerTaken_of_trigger (.delayTicked s) rfl (ticked.trans (.afterBatchTimers s))
  · have e := State.tickDelay_of_expires (s := s.advanceTime) (LimitTimer.expires_of hr hl)
    have k := (KeepsTimers.tickAbsolute s.advanceTime.tickDelay).trans (.afterBatchTimers hlinks)
    have d := KeepsTimers.trigger s.advanceTime.delayTicked
    rw [← e] at d
    exact ⟨(k.delay.trans d.delay).trans (LimitTimer.tick_of_expires hr hl), k.queue.trans d.queue⟩
  · have e := State.tickDelay_of_not_expires (s := s.advanceTime) hd
    refine congrArg Host.Outcome.next (if_pos ?_)
    show s.advanceTime.tickDelay.journal.absolute.expires = true
    rw [e]
    exact LimitTimer.expires_of hr hl
  · have e := State.tickDelay_of_not_expires (s := s.advanceTime) hd
    have hexp : s.advanceTime.delayTicked.journal.absolute.expires = true := LimitTimer.expires_of hr hl
    have ticked : s.batchTicked = s.advanceTime.delayTicked.absoluteTicked.trigger := by
      rw [State.batchTicked, e, State.tickAbsolute_of_expires hexp]
    have after := Stages.afterBatchTimers s
    rw [ticked] at after
    exact triggerTaken_of_trigger (u := s.advanceTime.delayTicked.absoluteTicked)
      (.of_journal rfl rfl rfl rfl rfl id id) rfl after
  · have e := State.tickDelay_of_not_expires (s := s.advanceTime) hd
    have k := (KeepsTimers.tickAbsolute s.advanceTime.tickDelay).trans (.afterBatchTimers hlinks)
    rw [e] at k
    have hstop : s.journal.absolute.tick = ⟨⟨s.journal.absolute.timer.value + 1, false⟩, s.journal.absolute.limit⟩ :=
      LimitTimer.tick_of_expires hr hl
    exact ⟨(k.absolute (congrArg (·.timer.running) hstop)).trans hstop, k.queue⟩

end Sys2Proof.Machine

/-! ## A good response to the Journal Unit's access (R160 to R166, R181) -/

namespace Sys2Proof.Machine

-- One theorem at a time, as above.
set_option Elab.async false

variable {s t u v : State} {w : Work}

/-! ### What follows the unit's own step -/

/-- What the end of the response leaves of the state `v` in which the Journal Unit has taken it. -/
structure Rests (v t : State) : Prop where
  time : t.time = v.time
  links : t.links = v.links
  lines : t.lines = v.lines
  pool : t.pool = v.pool
  plan : t.plan = v.plan
  settings : t.settings = v.settings
  test : t.test = v.test
  queue : t.journal.queue = v.journal.queue
  full : t.journal.full = v.journal.full
  roomLow : t.journal.roomLow = v.journal.roomLow
  nextIndex : t.journal.nextIndex = v.journal.nextIndex
  batchOwed : t.journal.batchOwed = v.journal.batchOwed
  recheckOwed : t.journal.recheckOwed = v.journal.recheckOwed
  delay : t.journal.delay = v.journal.delay
  absolute : t.journal.absolute = v.journal.absolute
  dropped : t.journal.dropped = v.journal.dropped
  gapSet : t.journal.gapSet = v.journal.gapSet
  idle : v.journal.work = none → t.journal.work = none
  work : ∀ w, v.journal.work = some w →
    ∃ st, t.journal.work = some { w with step := st } ∧ ((∀ c, w.step ≠ .entries c) → st = w.step)
  causes : ∀ i < 4, t.run.causes.getLsbD i = v.run.causes.getLsbD i
  frozen : v.run.control = .frozen → t.run.control = .frozen
  running : t.run.control = .running → v.run.control = .running

/-- The kind and the counts of a sequence in progress. -/
def Work.counts (w : Work) : WorkKind × Nat × Nat := (w.kind, w.taken, w.wrote)

theorem Rests.counts (h : Rests v t) (hw : v.journal.work = some w) :
    t.journal.work.map (fun x => (x.kind, x.taken, x.wrote)) = some w.counts := by
  obtain ⟨st, e, -⟩ := h.work w hw
  rw [e]
  rfl

/-- A sequence that is not at the status table stays at its step. -/
theorem Rests.same_work (h : Rests v t) (hw : v.journal.work = some w) (hst : ∀ c, w.step ≠ .entries c) :
    t.journal.work = some w := by
  obtain ⟨st, e, k⟩ := h.work w hw
  rw [e, k hst]

theorem State.grantShared_idle (h : s.journal.work = none) : s.grantShared.journal.work = none := by
  have hg : s.journalGranted.journal.work = none := by
    simp only [State.journalGranted, h]
  unfold State.grantShared
  split
  · split
    · exact h
    · exact hg
  · exact hg
  · exact h
  · exact h

/-- A freeze or a grant in RUNNING leaves the low causes, and what the units have. -/
theorem Rests.settle (hc : v.run.control = .running ∨ v.run.control = .frozen) : Rests v v.settle := by
  cases hp : v.run.port
  case busy a l =>
    rw [State.settle_of_busy hp]
    exact ⟨rfl, rfl, rfl, rfl, rfl, rfl, rfl, rfl, rfl, rfl, rfl, rfl, rfl, rfl, rfl, rfl, rfl, id,
      fun w hw => ⟨w.step, hw, fun _ => rfl⟩, fun _ _ => rfl, id, id⟩
  case free =>
    have journal : v.settle.journal.absolute = v.journal.absolute ∧
        (v.journal.work = none → v.settle.journal.work = none) := by
      rcases hc with hc | hc
      · rw [State.settle_of_running hc hp]
        split
        · exact ⟨rfl, id⟩
        · exact ⟨v.grantShared_absolute, State.grantShared_idle⟩
      · rw [State.settle_of_quiet (.inl hc)]
        exact ⟨rfl, id⟩
    have run : (∀ i < 4, v.settle.run.causes.getLsbD i = v.run.causes.getLsbD i) ∧
        (v.run.control = .frozen → v.settle.run.control = .frozen) ∧
        (v.settle.run.control = .running → v.run.control = .running) := by
      rcases hc with hc | hc
      · obtain ⟨-, causes⟩ := v.settle_run_of_running hc hp
        refine ⟨fun i hi => ?_, fun h => ?_, fun _ => hc⟩
        · rw [causes]
          split
          · interval_cases i <;> simp
          · rfl
        · exact absurd (hc.symm.trans h) nofun
      · rw [State.settle_of_quiet (.inl hc)]
        exact ⟨fun _ _ => rfl, id, id⟩
    obtain ⟨absolute, idle⟩ := journal
    obtain ⟨causes, frozen, running⟩ := run
    exact {
      time := v.settle_time, links := v.settle_links, lines := v.settle_lines, pool := v.settle_pool
      plan := v.settle_plan, settings := v.settle_settings, test := v.settle_test, queue := v.settle_queue
      full := v.settle_full, roomLow := v.settle_roomLow, nextIndex := v.settle_nextIndex
      batchOwed := v.settle_batchOwed, recheckOwed := v.settle_recheckOwed, delay := v.settle_delay
      absolute := absolute, dropped := v.settle_dropped, gapSet := v.settle_gapSet, idle := idle
      work := fun w hw => State.settle_work_step hw
      causes := causes, frozen := frozen, running := running }

/-- The executor's part is not among what rests. -/
theorem Rests.of_setExecutor {e : Executor} (h : Rests (v.setExecutor e) t) : Rests v t :=
  ⟨h.time, h.links, h.lines, h.pool, h.plan, h.settings, h.test, h.queue, h.full, h.roomLow, h.nextIndex, h.batchOwed,
    h.recheckOwed, h.delay, h.absolute, h.dropped, h.gapSet, h.idle, h.work, h.causes, h.frozen, h.running⟩

/-- A retry's return to RUNNING begins nothing in a Journal Unit that owes nothing it could begin. -/
theorem Rests.returned_settle (hc : v.run.control = .running) (ho : v.owedWork = v) : Rests v v.returned.settle := by
  have looked : v.returned = v.setExecutor v.owedLook.executor := by
    rw [State.returned, ho, ← State.owedLook_rest]
  rw [looked]
  exact .of_setExecutor (.settle (.inl hc))

/-- The Run Control in which a unit takes the good response to its access: RUNNING, or FROZEN at a retry with freeze
asked 1, whose cause stands above the four of the units (R177, R181). -/
structure UsedIn (s : State) (r : RunControl) : Prop where
  control : r.control = if s.run.control = .memoryError ∧ s.run.freezeAsked = true then .frozen else .running
  causes : ∀ i < 4, r.causes.getLsbD i = s.run.causes.getLsbD i

variable {r : RunControl}

theorem UsedIn.control_cases (h : UsedIn s r) : r.control = .running ∨ r.control = .frozen := by
  rw [h.control]
  split
  · exact .inr rfl
  · exact .inl rfl

/-- A good response to a live access of the Journal Unit, in RUNNING or as the retry that ends MEMORY_ERROR: the unit
takes it, and what it leaves rests if no work is left that could begin. -/
theorem State.accessDone_journal {a : Access} {data : List Byte} (h : s.inFlight = some a) (hu : a.unit = .journal)
    (ha : a.answeredBy data = true) :
    ∃ r, UsedIn s r ∧ ∀ v, (s.setRun r).journalDone data = v → v.run.control = r.control →
      (r.control = .running → v.owedWork = v) → Rests v (s.accessDone data) := by
  obtain ⟨hp, hc⟩ := (s.inFlight_eq_some_iff a).mp h
  unfold State.accessDone
  simp only [hp, ha, hu, if_true]
  rcases hc with hc | hc
  · simp only [hc]
    refine ⟨s.freePort.run, ⟨?_, fun _ _ => rfl⟩, ?_⟩
    · rw [if_neg (by rw [hc]; nofun)]
      exact hc
    · rintro v rfl hv -
      exact .settle (.inl (hv.trans hc))
  · simp only [hc]
    cases hf : s.run.freezeAsked
    · rw [State.retryDone_of_not_freeze (s := s.freePort) hf]
      refine ⟨{ s.freePort.run with failed := none, control := .running }, ⟨?_, fun _ _ => rfl⟩, ?_⟩
      · rw [if_neg (by rw [hf]; nofun)]
      · rintro v rfl hv ho
        exact .returned_settle hv (ho rfl)
    · rw [State.retryDone_of_freeze (s := s.freePort) hf]
      refine ⟨(s.freePort.setRun { s.freePort.run with failed := none }).enterFrozen.run, ⟨?_, fun i hi => ?_⟩, ?_⟩
      · rw [if_pos ⟨hc, hf⟩]
        rfl
      · show (s.run.causes ||| BitVec.twoPow 6 4).getLsbD i = _
        interval_cases i <;> simp
      · rintro v rfl hv -
        exact .settle (.inr hv)

/-- A sequence in progress lets nothing owed begin (R161, R165). -/
theorem State.owedWork_of_work (h : s.journal.work = some w) : s.owedWork = s :=
  if_pos (by rw [h]; nofun)

/-! ### A record written -/

/-- The Journal Unit alone has moved. -/
def JournalOnly (s t : State) : Prop := t = s.setJournal t.journal

theorem JournalOnly.refl (s : State) : JournalOnly s s := rfl

theorem JournalOnly.trans (h : JournalOnly s t) (k : JournalOnly t u) : JournalOnly s u := by
  unfold JournalOnly at *
  rw [k, h]
  rfl

/-- The part outside the Journal Unit and the Run Control is as the unit found it. -/
theorem Rests.frame (h : Rests v t) (k : JournalOnly u v) :
    t.lines = u.lines ∧ t.pool = u.pool ∧ t.plan = u.plan ∧ t.settings = u.settings ∧ t.test = u.test ∧
      t.links = u.links ∧ t.time = u.time := by
  rw [k] at h
  exact ⟨h.lines, h.pool, h.plan, h.settings, h.test, h.links, h.time⟩

theorem JournalOnly.trigger (s : State) : JournalOnly s s.trigger := by
  rcases s.trigger_cases with ⟨_, e⟩ | ⟨_, _, _, e⟩ | ⟨_, _, e⟩ <;> rw [e] <;> rfl

theorem JournalOnly.append (s : State) (l : Option LineNo) (b : RecordBody) (x : Bool) :
    JournalOnly s (s.append l b x) := by
  rw [State.append_eq]
  split
  · exact JournalOnly.trans (t := s.enqueued l b) rfl (.trigger _)
  · rfl

/-- With nothing dropped no GAP is staged. -/
theorem State.stageGap_of_none (h : s.journal.dropped = 0) : s.stageGap = s := if_pos (.inl h)

/-- GAP tells of what was dropped, at the tail (R160). -/
theorem State.stageGap_of_dropped (h : s.journal.dropped ≠ 0) (hc : s.run.control ≠ .stopping) :
    s.stageGap = (s.setJournal { s.journal with dropped := 0, gapSet := 0 }).append none
      (.gap s.journal.dropped s.journal.firstDrop s.journal.gapSet) true :=
  if_neg fun k => k.elim h hc

theorem JournalOnly.stageGap (s : State) : JournalOnly s s.stageGap := by
  unfold State.stageGap
  dsimp only
  split
  · exact .refl s
  · exact JournalOnly.trans (t := s.setJournal { s.journal with dropped := 0, gapSet := 0 }) rfl (.append ..)

/-- An urgent append with a sequence in progress and FULL 0 leaves a batch owed, and keeps the next index
(R161). -/
theorem State.append_of_work (h : s.journal.work = some w) (l : Option LineNo) (b : RecordBody) :
    (s.append l b true).journal.nextIndex = s.journal.nextIndex ∧
    (s.journal.full = false → (s.append l b true).journal.batchOwed = true) := by
  have e : s.append l b true = (s.enqueued l b).trigger := rfl
  rw [e]
  rcases (s.enqueued l b).trigger_cases with ⟨hf, e⟩ | ⟨_, _, hn, _⟩ | ⟨_, _, e⟩
  · rw [e]
    exact ⟨rfl, fun h0 => absurd (h0.symm.trans hf) nofun⟩
  · exact absurd (h.symm.trans hn) nofun
  · rw [e]
    exact ⟨rfl, fun _ => rfl⟩

/-- What GAP leaves in the Journal Unit with a sequence in progress outside STOPPING (R160). -/
theorem State.stageGap_journal (h : s.journal.work = some w) (hc : s.run.control ≠ .stopping) :
    s.stageGap.journal.nextIndex = s.journal.nextIndex ∧
    (s.journal.dropped = 0 → s.stageGap.journal.queue = s.journal.queue ∧ s.stageGap.journal.delay = s.journal.delay) ∧
    (s.journal.dropped ≠ 0 →
      s.stageGap.journal.queue =
        s.journal.queue ++ [⟨none, s.time, .gap s.journal.dropped s.journal.firstDrop s.journal.gapSet⟩] ∧
      s.stageGap.journal.dropped = 0 ∧ s.stageGap.journal.gapSet = 0 ∧
      (s.journal.full = false → s.stageGap.journal.batchOwed = true)) := by
  by_cases hd : s.journal.dropped = 0
  · rw [State.stageGap_of_none hd]
    exact ⟨rfl, fun _ => ⟨rfl, rfl⟩, absurd hd⟩
  · rw [State.stageGap_of_dropped hd hc]
    obtain ⟨next, owed⟩ := State.append_of_work (s := s.setJournal { s.journal with dropped := 0, gapSet := 0 }) h
      none (.gap s.journal.dropped s.journal.firstDrop s.journal.gapSet)
    obtain ⟨dropped, gapSet, -⟩ := State.append_drops (s.setJournal { s.journal with dropped := 0, gapSet := 0 })
      none (.gap s.journal.dropped s.journal.firstDrop s.journal.gapSet) true
    exact ⟨next, fun h0 => absurd h0 hd, fun _ => ⟨State.append_queue .., dropped, gapSet, owed⟩⟩

/-- A batch goes on with its counts `w`, and nothing else of the Journal Unit moves but ROOM_LOW. -/
structure GoesOn (s : State) (w : Work) (t : State) : Prop where
  rest : JournalOnly s t
  queue : t.journal.queue = s.journal.queue
  full : t.journal.full = s.journal.full
  nextIndex : t.journal.nextIndex = s.journal.nextIndex
  batchOwed : t.journal.batchOwed = s.journal.batchOwed
  dropped : t.journal.dropped = s.journal.dropped
  gapSet : t.journal.gapSet = s.journal.gapSet
  delay : t.journal.delay = s.journal.delay
  work : ∃ st, t.journal.work = some { w with step := st }

theorem GoesOn.workAt (s : State) (w : Work) (st : WorkStep) : GoesOn s w (s.workAt w st) :=
  ⟨rfl, rfl, rfl, rfl, rfl, rfl, rfl, rfl, st, rfl⟩

theorem GoesOn.afterRecords (s : State) (w : Work) : GoesOn s w (s.afterRecords w) := by
  unfold State.afterRecords
  repeat' split
  · exact .workAt s w _
  · exact ⟨rfl, rfl, rfl, rfl, rfl, rfl, rfl, rfl, _, rfl⟩
  · exact .workAt s w _

/-- The room check follows the records where a room threshold is set (R166). -/
theorem State.afterRecords_of_threshold (hw : w.wrote ≠ 0) (h : s.settings.roomThreshold ≠ 0) :
    s.afterRecords w = s.workAt w .roomRead := by rw [State.afterRecords, if_neg hw, if_neg h]

/-- With no room threshold ROOM_LOW is 0 after the records (R166). -/
theorem State.afterRecords_of_no_threshold (hw : w.wrote ≠ 0) (h : s.settings.roomThreshold = 0) :
    s.afterRecords w = State.workAt (s.setJournal { s.journal with roomLow := false }) w (.entries 0) := by
  rw [State.afterRecords, if_neg hw, if_pos h]

/-- A record off the queue, and the next index on (R160, R163). -/
def State.recordOff (s : State) : State :=
  s.setJournal { s.journal with
    queue := s.journal.queue.tail
    nextIndex := (s.journal.nextIndex + 1) % s.geometry.journalLength
    delay := if s.journal.queue.tail.isEmpty then { s.journal.delay with timer := s.journal.delay.timer.stop }
      else s.journal.delay }

/-- The batch delay timer stops with the last record gone (R162). -/
theorem State.recordOff_delay_of_empty (h : s.recordOff.journal.queue = []) :
    s.recordOff.journal.delay.timer.running = false := by
  have e : s.journal.queue.tail = [] := h
  simp [State.recordOff, e, Timer.stop]

/-- A batch with a record more written. -/
def Work.oneMore (w : Work) : Work := { w with taken := w.taken - 1, wrote := w.wrote + 1 }

theorem State.recordWritten_of_last (h : w.taken ≤ 1) :
    s.recordWritten w = s.recordOff.stageGap.afterRecords w.oneMore := 
  if_pos (Nat.sub_eq_zero_of_le h)

theorem State.recordWritten_of_more (h : 2 ≤ w.taken) :
    s.recordWritten w = s.recordOff.stageGap.workAt w.oneMore .readOwner := if_neg (Nat.sub_ne_zero_of_lt h)

theorem GoesOn.recordWritten (s : State) (w : Work) : GoesOn s.recordOff.stageGap w.oneMore (s.recordWritten w) := by
  by_cases h : w.taken ≤ 1
  · rw [State.recordWritten_of_last h]
    exact .afterRecords ..
  · rw [State.recordWritten_of_more (by omega)]
    exact .workAt ..

theorem JournalOnly.recordWritten (s : State) (w : Work) : JournalOnly s (s.recordWritten w) :=
  JournalOnly.trans (t := s.recordOff) rfl ((JournalOnly.stageGap _).trans (GoesOn.recordWritten s w).rest)

theorem State.journalDone_of_writeFilled {k : WorkKind} {n m : Nat}
    (h : s.journal.work = some ⟨k, n, m, .writeFilled⟩) (data : List Byte) :
    s.journalDone data = s.recordWritten ⟨k, n, m, .writeFilled⟩ := by simp only [State.journalDone, h]

/-- Settles O41: the unit takes the record off its queue and stages GAP behind the rest, and neither the port nor the
return to RUNNING touches what it leaves. -/
theorem writtenRecordLeavesTheQueue : Obligations.WrittenRecordLeavesTheQueue := by
  intro s a data k n m x q hfl hu hwr hwork hqueue
  refine ⟨s.accessDone data, rfl, ?_⟩
  obtain ⟨r, used, rests⟩ := State.accessDone_journal hfl hu (a.answeredBy_of_write data hwr)
  have hstop : r.control ≠ .stopping := by rcases used.control_cases with h | h <;> rw [h] <;> nofun
  have written : (s.setRun r).journalDone data = (s.setRun r).recordWritten ⟨k, n, m, .writeFilled⟩ :=
    State.journalDone_of_writeFilled (s := s.setRun r) hwork data
  have on := GoesOn.recordWritten (s.setRun r) ⟨k, n, m, .writeFilled⟩
  obtain ⟨st, work⟩ := on.work
  have rest := rests _ written (congrArg RunControl.control ((s.setRun r).recordWritten_run _)) fun _ =>
    State.owedWork_of_work work
  obtain ⟨next, kept, gap⟩ := State.stageGap_journal (s := (s.setRun r).recordOff) hwork hstop
  have hq : (s.setRun r).recordOff.journal.queue = q := congrArg List.tail hqueue
  have settings : (s.setRun r).recordOff.stageGap.settings = s.settings := by rw [JournalOnly.stageGap]; rfl
  refine ⟨rest.nextIndex.trans (on.nextIndex.trans next), fun hd => ?_, fun hd => ?_, rest.counts work, fun hn => ?_,
    fun hn hr => ?_, fun hn hr => ?_, rest.frame (u := s.setRun r) (.recordWritten ..)⟩
  · obtain ⟨queue, delay⟩ := kept hd
    refine ⟨rest.queue.trans (on.queue.trans (queue.trans hq)), fun h0 => ?_⟩
    rw [rest.delay, on.delay, delay]
    exact State.recordOff_delay_of_empty (s := s.setRun r) (hq.trans h0)
  · obtain ⟨queue, dropped, gapSet, owed⟩ := gap hd
    rw [hq] at queue
    exact ⟨rest.queue.trans (on.queue.trans queue), rest.dropped.trans (on.dropped.trans dropped),
      rest.gapSet.trans (on.gapSet.trans gapSet), fun hf => rest.batchOwed.trans (on.batchOwed.trans (owed hf))⟩
  · rw [State.recordWritten_of_more hn] at rest
    rw [rest.same_work rfl nofun]
    rfl
  · rw [← settings] at hr
    rw [State.recordWritten_of_last hn, State.afterRecords_of_threshold (Nat.succ_ne_zero m) hr] at rest
    rw [rest.same_work rfl nofun]
    rfl
  · rw [← settings] at hr
    rw [State.recordWritten_of_last hn, State.afterRecords_of_no_threshold (Nat.succ_ne_zero m) hr] at rest
    exact rest.roomLow

end Sys2Proof.Machine

/-! ## The owner read (R163 to R165, R181) -/

namespace Sys2Proof.Machine

-- One theorem at a time, as above.
set_option Elab.async false

variable {s t : State} {w : Work} {b : Byte}

/-! ### What the read tells -/

/-- One byte read is EMPTY exactly as 0. -/
theorem isEmpty_singleton (b : Byte) : isEmpty [b] = decide (b = 0) := by
  rw [isEmpty]
  refine decide_eq_decide.mpr ⟨fun h => BitVec.eq_of_toNat_eq h, fun h => ?_⟩
  rw [h]
  rfl

theorem State.ownerRead_licenses (hk : w.kind ≠ .recheck) : s.ownerRead w [0] = s.workAt w .writeBody := by
  unfold State.ownerRead
  split
  · exact absurd ‹_› hk
  · rfl

theorem State.ownerRead_finds_full (hk : w.kind ≠ .recheck) (hb : b ≠ 0) : s.ownerRead w [b] = s.foundFull w := by
  unfold State.ownerRead
  split
  · exact absurd ‹_› hk
  · rw [isEmpty_singleton, decide_eq_false hb]
    rfl

theorem State.ownerRead_recovers (hk : w.kind = .recheck) : s.ownerRead w [0] = s.recovered := by
  simp only [State.ownerRead, hk]
  rfl

theorem State.ownerRead_still_full (hk : w.kind = .recheck) (hb : b ≠ 0) : s.ownerRead w [b] = s.stillFull w := by
  simp only [State.ownerRead, hk]
  rw [isEmpty_singleton, decide_eq_false hb]
  rfl

theorem State.journalDone_of_readOwner {k : WorkKind} {n m : Nat}
    (h : s.journal.work = some ⟨k, n, m, .readOwner⟩) (data : List Byte) :
    s.journalDone data = s.ownerRead ⟨k, n, m, .readOwner⟩ data := by simp only [State.journalDone, h]

/-! ### The journal found FULL -/

/-- FULL set, and its cause raised where FULL was 0 (R164). -/
def State.markedFull (s : State) : State :=
  (s.setJournal { s.journal with full := true }).raiseIfNew s.journal.full .full

theorem State.foundFull_eq (s : State) (w : Work) : s.foundFull w = s.markedFull.afterRecords w := rfl

theorem State.markedFull_journal (s : State) : s.markedFull.journal = { s.journal with full := true } := by
  unfold State.markedFull State.raiseIfNew
  split <;> rfl

theorem State.markedFull_causes_of_new (h : s.journal.full = false) : s.markedFull.run.causes.getLsbD 2 = true := by
  rw [State.markedFull, h]
  show (s.run.causes ||| BitVec.twoPow 6 2).getLsbD 2 = true
  simp

theorem State.markedFull_run_of_full (h : s.journal.full = true) : s.markedFull.run = s.run := by
  rw [State.markedFull, h]
  rfl

/-! ### The re-read -/

/-- In FROZEN nothing new begins: the batch is owed (R181). -/
theorem State.recovered_of_frozen (h : s.run.control = .frozen) : s.recovered =
    s.setJournal { s.journal with full := false, recheckOwed := false, work := none, batchOwed := true } := if_pos h

theorem State.recovered_of_not_frozen (h : s.run.control ≠ .frozen) : s.recovered =
    State.beginBatch (s.setJournal { s.journal with full := false, recheckOwed := false }) .normal := if_neg h

theorem State.stillFull_recheckOwed (h : s.run.control ≠ .frozen) (w : Work) :
    (s.stillFull w).journal.recheckOwed = false := by
  show (s.journal.recheckOwed && decide (s.run.control = .frozen)) = false
  rw [decide_eq_false h, Bool.and_false]

/-- Settles O42: in each of the four outcomes the unit's step is one of the equations above, and what follows it keeps
FULL, its cause, the queue and the sequence it leaves. -/
theorem ownerReadFindsEmptyOrFull : Obligations.OwnerReadFindsEmptyOrFull := by
  intro s a b k n m hfl hu hwr hlen hwork
  refine ⟨s.accessDone [b], rfl, ?_⟩
  obtain ⟨r, used, rests⟩ := State.accessDone_journal hfl hu (Access.answeredBy_of_length (data := [b]) hlen.symm)
  have read : (s.setRun r).journalDone [b] = (s.setRun r).ownerRead ⟨k, n, m, .readOwner⟩ [b] :=
    State.journalDone_of_readOwner (s := s.setRun r) hwork [b]
  have cause := used.causes 2 (by omega)
  by_cases hk : k = .recheck
  · subst hk
    by_cases hb : b = 0
    · subst hb
      rw [State.ownerRead_recovers rfl] at read
      by_cases hf : s.run.control = .memoryError ∧ s.run.freezeAsked = true
      · have hc : (s.setRun r).run.control = .frozen := used.control.trans (if_pos hf)
        rw [State.recovered_of_frozen hc] at read
        have rest := rests _ read rfl fun h => absurd (hc.symm.trans h) nofun
        refine ⟨rest.queue, rest.nextIndex, fun h => absurd rfl h, fun h => absurd rfl h, fun _ _ => ?_,
          fun _ h => absurd rfl h⟩
        rw [if_pos hf]
        exact ⟨rest.full, (rest.causes 2 (by omega)).trans cause, rest.recheckOwed, rest.frozen hc, rest.idle rfl,
          rest.batchOwed⟩
      · have hc : (s.setRun r).run.control = .running := used.control.trans (if_neg hf)
        rw [State.recovered_of_not_frozen (by rw [hc]; nofun)] at read
        have rest := rests _ read rfl fun _ => State.owedWork_of_work rfl
        refine ⟨rest.queue, rest.nextIndex, fun h => absurd rfl h, fun h => absurd rfl h, fun _ _ => ?_,
          fun _ h => absurd rfl h⟩
        rw [if_neg hf]
        exact ⟨rest.full, (rest.causes 2 (by omega)).trans cause, rest.recheckOwed, rest.counts rfl⟩
    · rw [State.ownerRead_still_full rfl hb] at read
      have rest := rests _ read rfl fun _ => State.owedWork_of_work rfl
      refine ⟨rest.queue, rest.nextIndex, fun h => absurd rfl h, fun h => absurd rfl h, fun _ h => absurd h hb,
        fun _ _ => ⟨rest.full, (rest.causes 2 (by omega)).trans cause, fun hr => ?_, rest.counts rfl⟩⟩
      have unfrozen : (s.setRun r).run.control ≠ .frozen := by
        rw [← State.stillFull_run, rest.running hr]
        nofun
      exact rest.recheckOwed.trans (State.stillFull_recheckOwed unfrozen _)
  · by_cases hb : b = 0
    · subst hb
      rw [State.ownerRead_licenses hk] at read
      have rest := rests _ read rfl fun _ => State.owedWork_of_work rfl
      exact ⟨rest.queue, rest.nextIndex, fun _ _ => ⟨rest.same_work rfl nofun, rest.full⟩, fun _ h => absurd rfl h,
        fun h => absurd h hk, fun h => absurd h hk⟩
    · rw [State.ownerRead_finds_full hk hb, State.foundFull_eq] at read
      have on := GoesOn.afterRecords (s.setRun r).markedFull ⟨k, n, m, .readOwner⟩
      have marked := (s.setRun r).markedFull_journal
      obtain ⟨st, work⟩ := on.work
      have rest := rests _ read (KeepsControl.foundFull (s.setRun r) _).control fun _ => State.owedWork_of_work work
      have causes : (s.accessDone [b]).run.causes.getLsbD 2 = (s.setRun r).markedFull.run.causes.getLsbD 2 := by
        rw [rest.causes 2 (by omega), State.afterRecords_run]
      refine ⟨?_, ?_, fun _ h => absurd h hb, fun _ _ => ⟨?_, fun h0 => ?_, fun h1 => ?_, rest.counts work⟩,
        fun h => absurd h hk, fun h => absurd h hk⟩
      · rw [rest.queue, on.queue, marked]
        rfl
      · rw [rest.nextIndex, on.nextIndex, marked]
        rfl
      · rw [rest.full, on.full, marked]
      · rw [causes, State.markedFull_causes_of_new (s := s.setRun r) h0]
      · rw [causes, State.markedFull_run_of_full (s := s.setRun r) h1]
        exact cause

end Sys2Proof.Machine

/-! ## The end of a batch (R161 to R163, R165, R168, R181) -/

namespace Sys2Proof.Machine

-- One theorem at a time, as above.
set_option Elab.async false

variable {s t : State} {w : Work}

/-! ### The work owed -/

/-- With no batch owed that may begin and no re-read owed that is due, nothing begins. -/
theorem State.owedWork_of_nothing (hb : ¬ (s.journal.batchOwed = true ∧ s.journal.full = false))
    (hr : ¬ (s.journal.recheckOwed = true ∧ s.journal.full = true)) : s.owedWork = s := by
  rw [State.owedWork, if_neg hb, if_neg hr, ite_self]

/-- The work owed begins once. -/
theorem State.owedWork_owedWork (s : State) : s.owedWork.owedWork = s.owedWork := by
  cases hw : s.journal.work
  case some w => rw [State.owedWork_of_work hw, State.owedWork_of_work hw]
  case none =>
    by_cases hb : s.journal.batchOwed = true ∧ s.journal.full = false
    · rw [State.owedWork_of_batch hw hb.1 hb.2]
      exact State.owedWork_of_work rfl
    · by_cases hr : s.journal.recheckOwed = true ∧ s.journal.full = true
      · rw [State.owedWork_of_recheck hw hr.1 hr.2]
        exact State.owedWork_of_work rfl
      · rw [State.owedWork_of_nothing hb hr, State.owedWork_of_nothing hb hr]

/-! ### A batch ended, before the work owed -/

/-- BATCH raised if the batch wrote a record, no sequence in progress, and the batch absolute timer started again where
records are staged (R162, R163). -/
def State.batchEnded (s : State) (w : Work) : State :=
  let s1 := if w.wrote = 0 then s else s.raiseCause .batch
  State.restartAbsolute (s1.setJournal { s1.journal with work := none })

theorem State.endWork_of_normal (hk : w.kind = .normal) (s : State) :
    s.endWork w =
      if (s.batchEnded w).run.control = .running then (s.batchEnded w).owedWork else s.batchEnded w := by
  simp only [State.endWork, hk]
  rfl

theorem State.batchEnded_run (s : State) (w : Work) :
    (s.batchEnded w).run = if w.wrote = 0 then s.run else (s.raiseCause .batch).run := by
  rw [State.batchEnded]
  dsimp only
  rw [State.restartAbsolute_run]
  split <;> rfl

theorem State.batchEnded_control (s : State) (w : Work) : (s.batchEnded w).run.control = s.run.control := by
  rw [State.batchEnded_run]
  split <;> rfl

theorem State.batchEnded_cause (s : State) (w : Work) :
    (s.batchEnded w).run.causes.getLsbD 0 = (s.run.causes.getLsbD 0 || decide (w.wrote ≠ 0)) := by
  rw [State.batchEnded_run]
  split
  · simp [‹w.wrote = 0›]
  · show (s.run.causes ||| BitVec.twoPow 6 0).getLsbD 0 = _
    simp [‹¬ w.wrote = 0›]

theorem State.restartAbsolute_journal (s : State) :
    s.restartAbsolute.journal = { s.journal with absolute := s.restartAbsolute.journal.absolute } := by
  unfold State.restartAbsolute
  split <;> rfl

theorem State.restartAbsolute_runs (hq : s.journal.queue ≠ []) (hb : s.settings.batchAbsolute ≠ 0) :
    s.restartAbsolute.journal.absolute = ⟨⟨0, true⟩, s.settings.batchAbsolute⟩ := by
  rw [State.restartAbsolute, if_neg (by simpa using hq)]
  exact if_neg hb

theorem State.batchEnded_journal (s : State) (w : Work) :
    (s.batchEnded w).journal = { s.journal with work := none, absolute := (s.batchEnded w).journal.absolute } := by
  unfold State.batchEnded
  dsimp only
  rw [State.restartAbsolute_journal]
  split <;> rfl

theorem State.batchEnded_absolute (hq : s.journal.queue ≠ []) (hb : s.settings.batchAbsolute ≠ 0) (w : Work) :
    (s.batchEnded w).journal.absolute = ⟨⟨0, true⟩, s.settings.batchAbsolute⟩ := by
  unfold State.batchEnded
  dsimp only
  split
  · exact State.restartAbsolute_runs hq hb
  · exact State.restartAbsolute_runs hq hb

/-- A batch has ended in `v`, before the work owed. -/
structure EndsBatch (s : State) (w : Work) (v : State) : Prop where
  control : v.run.control = s.run.control
  cause : v.run.causes.getLsbD 0 = (s.run.causes.getLsbD 0 || decide (w.wrote ≠ 0))
  idle : v.journal.work = none
  queue : v.journal.queue = s.journal.queue
  nextIndex : v.journal.nextIndex = s.journal.nextIndex
  full : v.journal.full = s.journal.full
  batchOwed : v.journal.batchOwed = s.journal.batchOwed
  recheckOwed : v.journal.recheckOwed = s.journal.recheckOwed
  absolute : s.journal.queue ≠ [] → s.settings.batchAbsolute ≠ 0 →
    v.journal.absolute = ⟨⟨0, true⟩, s.settings.batchAbsolute⟩

theorem EndsBatch.batchEnded (s : State) (w : Work) : EndsBatch s w (s.batchEnded w) where
  control := s.batchEnded_control w
  cause := s.batchEnded_cause w
  idle := by rw [State.batchEnded_journal]
  queue := by rw [State.batchEnded_journal]
  nextIndex := by rw [State.batchEnded_journal]
  full := by rw [State.batchEnded_journal]
  batchOwed := by rw [State.batchEnded_journal]
  recheckOwed := by rw [State.batchEnded_journal]
  absolute hq hb := State.batchEnded_absolute hq hb w

theorem State.journalDone_of_block {k : WorkKind} {n m : Nat} (h : s.journal.work = some ⟨k, n, m, .block⟩)
    (data : List Byte) : s.journalDone data = s.endWork ⟨k, n, m, .block⟩ := by simp only [State.journalDone, h]

/-- Settles O43: the batch ends with its cause and its timer, and in RUNNING the work owed begins on top of it; nothing
owed is left for the return to RUNNING to begin. -/
theorem batchEndsWithItsCauseAndTheWorkOwed : Obligations.BatchEndsWithItsCauseAndTheWorkOwed := by
  intro s a data n m hfl hu hwr hwork
  refine ⟨s.accessDone data, rfl, ?_⟩
  obtain ⟨r, used, rests⟩ := State.accessDone_journal hfl hu (a.answeredBy_of_write data hwr)
  have ended := (State.journalDone_of_block (s := s.setRun r) hwork data).trans (State.endWork_of_normal rfl _)
  obtain ⟨control, cause, idle, queue, nextIndex, full, batchOwed, recheckOwed, absolute⟩ :=
    EndsBatch.batchEnded (s.setRun r) ⟨.normal, n, m, .block⟩
  generalize (s.setRun r).batchEnded ⟨.normal, n, m, .block⟩ = v at *
  simp only [State.setRun_run, State.setRun_journal, State.setRun_settings, used.causes 0 (by omega : 0 < 4)] at *
  by_cases hf : s.run.control = .memoryError ∧ s.run.freezeAsked = true
  · have hc : r.control = .frozen := used.control.trans (if_pos hf)
    rw [if_neg (by rw [control]; exact fun h => absurd (hc.symm.trans h) nofun)] at ended
    have rest := rests v ended control fun h => absurd (hc.symm.trans h) nofun
    refine ⟨(rest.causes 0 (by omega)).trans cause, rest.queue.trans queue, rest.nextIndex.trans nextIndex,
      rest.full.trans full, ?_⟩
    rw [if_pos hf]
    exact ⟨rest.frozen (control.trans hc), rest.idle idle, rest.batchOwed.trans batchOwed,
      rest.recheckOwed.trans recheckOwed, fun hq hb => rest.absolute.trans (absolute hq hb)⟩
  · have hc : r.control = .running := used.control.trans (if_neg hf)
    rw [if_pos (control.trans hc)] at ended
    have rest := rests _ ended (by rw [State.owedWork_run]; exact control) fun _ => v.owedWork_owedWork
    have begins := BeginsWork.owedWork (s := v)
    refine ⟨?_, rest.queue.trans (begins.queue.trans queue), rest.nextIndex.trans (begins.nextIndex.trans nextIndex),
      rest.full.trans (begins.full.trans full), ?_⟩
    · rw [rest.causes 0 (by omega), State.owedWork_run, cause]
    rw [if_neg hf, ← batchOwed, ← recheckOwed, ← full, ← queue]
    split
    · obtain ⟨ho, h0⟩ := ‹v.journal.batchOwed = true ∧ v.journal.full = false›
      rw [State.owedWork_of_batch idle ho h0] at rest
      exact ⟨rest.counts rfl, rest.batchOwed, congrArg (·.timer.running) rest.absolute⟩
    · split
      · obtain ⟨ho, h1⟩ := ‹v.journal.recheckOwed = true ∧ v.journal.full = true›
        rw [State.owedWork_of_recheck idle ho h1] at rest
        exact ⟨rest.same_work rfl nofun, rest.recheckOwed⟩
      · rw [State.owedWork_of_nothing ‹_› ‹_›] at rest
        exact ⟨rest.idle idle, fun hq hb => rest.absolute.trans (absolute (queue ▸ hq) hb)⟩

end Sys2Proof.Machine

/-! ## The control state at every command (R172, R176, R178 to R182) -/

namespace Sys2Proof.Machine

-- One theorem at a time, as above.
set_option Elab.async false

variable {s t u : State}

/-! ### The table of control states -/

/-- The control state stays or moves as the table of control states lists. -/
def State.Moves (s t : State) : Prop := s.run.control.mayBecome t.run.control = true

theorem ControlState.mayBecome_self (a : ControlState) : a.mayBecome a = true := by
  cases a <;> rfl

/-- Every state from which the table reaches RUNNING may freeze in the same command (R180). -/
theorem ControlState.mayBecome_frozen_of_running {a : ControlState} (h : a.mayBecome .running = true) :
    a.mayBecome .frozen = true := by
  cases a
  case stopped => exact nomatch h
  case stopping => exact nomatch h
  all_goals rfl

/-- Entry to STOPPED is in the table from every state but RUNNING (R179, R182). -/
theorem ControlState.mayBecome_stopped {a : ControlState} (h : a ≠ .running) : a.mayBecome .stopped = true := by
  cases a
  case running => exact absurd rfl h
  all_goals rfl

theorem State.Moves.of_control (h : t.run.control = s.run.control) : s.Moves t := by
  rw [State.Moves, h]
  exact s.run.control.mayBecome_self

theorem State.Moves.of_run (h : t.run = s.run) : s.Moves t := .of_control (congrArg _ h)

theorem State.Moves.refl (s : State) : s.Moves s := .of_control rfl

/-- A move to a control state that is known. -/
theorem State.Moves.between {a b : ControlState} (ha : s.run.control = a) (hb : t.run.control = b)
    (h : a.mayBecome b = true) : s.Moves t := by
  rwa [State.Moves, ha, hb]

theorem State.Moves.stopped (hs : s.run.control ≠ .running) (ht : t.run.control = .stopped) : s.Moves t :=
  .between rfl ht (ControlState.mayBecome_stopped hs)

/-- At the end of a command the part may freeze, where the command has left it in RUNNING (R180). -/
theorem State.Moves.settle (h : s.Moves u) : s.Moves u.settle := by
  rcases (Settles.settle u).control with hc | ⟨hr, hf⟩
  · rwa [State.Moves, hc]
  · rw [State.Moves, hr] at h
    rw [State.Moves, hf]
    exact ControlState.mayBecome_frozen_of_running h

/-- A command that leaves the Run Control alone, but for what the port does at its end. -/
theorem State.Moves.settle_of_run (h : u.run = s.run) : s.Moves u.settle := (State.Moves.of_run h).settle

/-! ### A unit's step outside STOPPING keeps the control state -/

theorem KeepsControl.of_run (h : t.run = s.run) : KeepsControl s t := ⟨congrArg _ h, congrArg _ h⟩

/-- The end of a sequence other than the final batch raises a cause at most (R163, R165). -/
theorem KeepsControl.endWork (s : State) {w : Work} (hk : w.kind ≠ .final) : KeepsControl s (s.endWork w) := by
  have raised : KeepsControl s (if w.wrote = 0 then s else s.raiseCause .batch) := by
    split <;> exact ⟨rfl, rfl⟩
  have owed (v : State) (c : Prop) [Decidable c] : (if c then v.owedWork else v).run = v.run :=
    State.ite_keeps (P := fun x => x.run = v.run) c rfl v.owedWork_run
  revert raised
  unfold State.endWork
  generalize (if w.wrote = 0 then s else s.raiseCause .batch) = u
  intro raised
  dsimp only
  split
  · exact absurd ‹_› hk
  · exact raised.andThen (owed _ _)
  · exact raised.andThen ((owed _ _).trans (State.restartAbsolute_run _))

theorem KeepsControl.ownerRead (s : State) (w : Work) (d : List Byte) : KeepsControl s (s.ownerRead w d) := by
  unfold State.ownerRead
  repeat' split
  · exact .of_run s.recovered_run
  · exact .of_run rfl
  · exact .of_run rfl
  · exact .foundFull s w

theorem KeepsControl.journalDone (h : NoFinal s) (d : List Byte) : KeepsControl s (s.journalDone d) := by
  unfold State.journalDone
  split
  · exact .of_run rfl
  · rename_i w hw
    split
    · exact .ownerRead s w d
    · exact .of_run rfl
    · exact .of_run (s.recordWritten_run w)
    · exact .roomChecked s w d
    · exact .of_run rfl
    · exact .of_run rfl
    · exact .endWork s (h.kind w hw)

/-- The executor's step raises ORDER at most (R130). -/
theorem KeepsControl.executorDone (s : State) (d : List Byte) : KeepsControl s (s.executorDone d) := by
  unfold State.executorDone
  split
  case h_8 => exact (KeepsControl.raiseIfNew s false .order).andThen (State.becomeIdle_run _)
  all_goals exact .of_run (by simp)

theorem KeepsControl.unitDone (h : NoFinal s) (x : MemUnit) (d : List Byte) : KeepsControl s (s.unitDone x d) := by
  cases x
  case journal => exact .journalDone h d
  case executor => exact .executorDone s d
  case start => exact .of_run rfl

/-! ### The outcomes of an access -/

/-- The start goes on, ends in RUNNING, or ends in STOPPED with BAD_LAYOUT (R178, R179). -/
theorem State.startDone_control (s : State) (d : List Byte) :
    (s.startDone d).run.control = s.run.control ∨ (s.startDone d).run.control = .running ∨
      (s.startDone d).run.control = .stopped := by
  unfold State.startDone
  split
  · exact .inl rfl
  · split
    · unfold State.startSettings
      dsimp only
      repeat' split
      · exact .inl rfl
      · exact .inl rfl
      · exact .inr (.inr rfl)
    · unfold State.startPlan
      dsimp only
      split <;> exact .inl rfl
    · unfold State.startProfile
      dsimp only
      split <;> exact .inl rfl
    · unfold State.startEntryDone
      split <;> exact .inl rfl
    · rw [(BeginsWork.startEnds s _).rest]
      exact .inr (.inl (congrArg RunControl.control (s.started_run _)))

theorem State.Moves.startDone (hc : s.run.control = .starting) (d : List Byte) : s.Moves (s.startDone d) := by
  rcases s.startDone_control d with h | h | h
  · exact .of_control h
  · exact .between hc h rfl
  · exact .between hc h rfl

/-- In STOPPING a unit's step may end the final batch, which stops the part (R170). -/
theorem State.Moves.of_staysOrStops (hc : s.run.control ≠ .running) (k : StaysOrStops s t) : s.Moves t := by
  cases k
  case kept k _ => exact .of_control k.control
  case stopped v e => exact .stopped hc (by rw [e]; rfl)

/-- A retry that succeeds ends MEMORY_ERROR, in FROZEN if freeze asked is 1 and else in RUNNING (R181). -/
theorem State.retryDone_control (h : NoFinal s) (x : MemUnit) (d : List Byte) :
    (s.retryDone x d).run.control = if s.run.freezeAsked then .frozen else .running := by
  cases hf : s.run.freezeAsked
  · have ready : NoFinal (s.setRun { s.run with failed := none, control := .running }) := h.of_work
    rw [State.retryDone_of_not_freeze hf, State.returned_run]
    exact (KeepsControl.unitDone ready x d).control
  · have ready : NoFinal (s.setRun { s.run with failed := none }).enterFrozen := h.of_work
    rw [State.retryDone_of_freeze hf]
    exact (KeepsControl.unitDone ready x d).control

theorem State.Moves.retryDone (hc : s.run.control = .memoryError) (h : NoFinal s) (x : MemUnit) (d : List Byte) :
    s.Moves (s.retryDone x d) := by
  refine .between hc (State.retryDone_control h x d) ?_
  split <;> rfl

theorem State.finalInStopping.noFinal (h : s.finalInStopping) (hc : s.run.control ≠ .stopping) : NoFinal s :=
  ⟨fun w hw hk => hc (h w hw hk)⟩

theorem State.Moves.accessDone (h : s.finalInStopping) (d : List Byte) : s.Moves (s.accessDone d) := by
  have noFinal (hn : s.run.control ≠ .stopping) : NoFinal s.freePort := (h.noFinal hn).of_work
  unfold State.accessDone
  split
  · exact .refl s
  · rename_i a live _
    split
    · dsimp only
      split
      · exact State.Moves.settle (.startDone (s := s.freePort) ‹_› d)
      · rename_i hc
        exact State.Moves.settle (.of_control (KeepsControl.unitDone (noFinal (by rw [hc]; nofun)) a.unit d).control)
      · rename_i hc
        split
        · exact State.Moves.settle
            (.of_staysOrStops (s := s.freePort) (by rw [show s.freePort.run.control = _ from hc]; nofun)
              (.unitDone _ a.unit d))
        · exact State.Moves.settle (.of_control rfl)
      · rename_i hc
        exact State.Moves.settle (.retryDone (s := s.freePort) hc (noFinal (by rw [hc]; nofun)) a.unit d)
      · exact .of_control rfl
      · exact .of_control rfl
    · exact .refl s

theorem State.Moves.accessFailed (s : State) : s.Moves s.accessFailed := by
  unfold State.accessFailed
  split
  · exact .refl s
  · split
    · exact .between ‹_› rfl rfl
    · exact .between ‹_› rfl rfl
    · exact .of_control rfl
    · exact .between ‹_› rfl rfl
    · exact .of_control rfl
    · exact .of_control rfl

/-! ### The Run Control's commands -/

theorem State.Moves.runStart (s : State) : s.Moves s.runStart := by
  unfold State.runStart
  split
  · exact State.Moves.settle (.between ‹_› rfl rfl)
  · exact .refl s

theorem State.Moves.runStop (s : State) : s.Moves s.runStop := by
  by_cases hc : s.run.control = .running
  · rw [State.runStop_of_running hc]
    exact State.Moves.settle (.between hc (b := .stopping) rfl rfl)
  · rw [State.runStop_of_not_running hc]
    exact State.ite_keeps _ (.refl s) (.stopped hc rfl)

theorem State.Moves.freeze (s : State) (b : Bool) : s.Moves (s.freeze b) := by
  by_cases hthaw : s.run.control = .frozen ∧ b = false
  · obtain ⟨hc, rfl⟩ := hthaw
    rw [State.freeze_thaws hc]
    exact State.Moves.settle (.between hc (congrArg RunControl.control s.thawed.returned_run) rfl)
  · rw [State.freeze_of_not_thaw hthaw]
    exact State.Moves.settle (.of_control rfl)

theorem State.Moves.resume (s : State) : s.Moves s.resume := by
  unfold State.resume
  split <;> exact .of_control rfl

/-! ### The rows by the shared operation that they are made of -/

theorem State.Moves.execStrobe {c : Instr} (hc : c.isStrobe = true) (e : exec c s = .next t) : s.Moves t := by
  have instant := State.Moves.settle_of_run s.strobeInstant_run
  rcases exec_of_isStrobe hc s with rfl | ⟨due, he⟩
  · cases e
    exact instant
  · rw [he] at e
    cases e
    exact State.ite_keeps _ (.refl s) instant

theorem State.Moves.execSample {c : Instr} {L : LineNo} {x : Sample} (hc : c.sampleOf = some (L, x))
    (e : exec c s = .next t) : s.Moves t := by
  obtain ⟨due, he⟩ := exec_of_sampleOf hc s
  rw [he] at e
  cases e
  exact State.ite_keeps _ (.refl s) (.settle_of_run (s.takeSample_run L x))

theorem State.Moves.orderRow (h : s.finalInStopping) {due : Bool} {d : List Byte} (e : s.orderRow due d = .next t) :
    s.Moves t := by
  cases e
  exact State.ite_keeps _ (.refl s) (.accessDone h d)

/-- Settles O3: a stimulus leaves the control state to the port, which may freeze a part in RUNNING; an outcome of an
access and a write to CONTROL move it along the table, since the final batch alone ends in STOPPED. -/
theorem controlStateMovesByItsTable : Obligations.ControlStateMovesByItsTable := by
  intro c s t h hreset e
  change s.Moves t
  cases c
  case strobeInstant | linkLost | batchDelayExpiry | batchAbsoluteExpiry | orderPoll | testSettleEnd |
      stimulusWaitEnd | pulseEnd | dischargeEnd =>
    exact .execStrobe rfl e
  case seizeConfirm | release | parkedRelease | digitEnd | firstDigitTimeout | interdigitTimeout | toneWindowExpiry |
      queueWaitNotice | conditionConfirm | conditionClear | powerCrossRaise | powerCrossClear =>
    exact .execSample rfl e
  case block | unblock | attachReceiver | detachReceiver | resumeCollection | reloadProfiles | reloadPlan |
      reloadSettings | lineTest | selfCheck =>
    exact .orderRow h e
  case softReset | pinReset => cases hreset
  all_goals cases e
  case senseFrame g b => exact .settle_of_run (s.senseFrame_run g b)
  case linkRestored g b => exact State.ite_keeps _ (.refl s) (.settle_of_run (s.senseFrame_run g b))
  case highwayInstant => exact .settle_of_run s.highwayInstant_run
  case highwayLost => exact State.ite_keeps _ (.refl s) (.settle_of_run s.highwayInstant_run)
  case highwayFrame x => exact .settle_of_run (s.highwayFrame_run x)
  case highwayRestored x => exact State.ite_keeps _ (.refl s) (.settle_of_run (s.highwayFrame_run x))
  case blockEnd r x => exact State.ite_keeps _ (.refl s) (.settle_of_run (s.highwayFrame_run x))
  case memoryAccessDone d => exact .accessDone h d
  case memoryAccessError => exact .accessFailed s
  case memoryAccessTimeout => exact .accessFailed s
  case readingDone x => exact .settle_of_run (s.readingDone_run x)
  case loopWatchRead v => exact .settle_of_run (s.loopWatch_run v)
  case runStart => exact .runStart s
  case runStop => exact .runStop s
  case freeze b => exact .freeze s b
  case resume => exact .resume s
  case nudge v => exact .settle_of_run ((State.executorPoll_run _).trans s.journalPoll_run)
  case areaBase v => exact State.ite_keeps _ (.refl s) (.of_control rfl)
  case ignoredRegisterWrite | enables | cause => exact .of_control rfl

end Sys2Proof.Machine

/-! ## An access that fails (R172, R179, R181, R182) -/

namespace Sys2Proof.Machine

-- One theorem at a time, as above.
set_option Elab.async false

variable {s : State} {a : Access} {live : Bool}

/-- MEM_ERROR has bit 5 of CAUSE (R177). -/
theorem State.raiseCause_memError (s : State) :
    s.raiseCause .memError = s.setRun { s.run with causes := s.run.causes ||| 32 } := rfl

/-- Both rows are the failure of the access in flight. -/
theorem exec_of_failure {c : Instr} (hc : c = .memoryAccessError ∨ c = .memoryAccessTimeout) (s : State) :
    exec c s = .next s.accessFailed := by
  rcases hc with rfl | rfl <;> rfl

theorem State.accessFailed_of_free (hp : s.run.port = .free) : s.accessFailed = s := by
  simp only [State.accessFailed, hp]

theorem State.accessFailed_of_running (hp : s.run.port = .busy a live) (hc : s.run.control = .running) :
    s.accessFailed = s.setRun { s.run with
      control := .memoryError, failed := some a, port := .free, causes := s.run.causes ||| 32 } := by
  simp only [State.accessFailed, hp, hc, State.raiseCause_memError]
  rfl

theorem State.accessFailed_of_memoryError (hp : s.run.port = .busy a live) (hc : s.run.control = .memoryError) :
    s.accessFailed = s.setRun { s.run with port := .free, causes := s.run.causes ||| 32 } := by
  have failed : s.accessFailed = s.freePort.raiseCause .memError := by simp only [State.accessFailed, hp, hc]
  exact failed.trans (State.raiseCause_memError _)

theorem State.accessFailed_of_starting (hp : s.run.port = .busy a live) (hc : s.run.control = .starting) :
    s.accessFailed = (s.raiseCause .memError).failStart .memError := by
  simp only [State.accessFailed, hp, hc]

theorem State.accessFailed_of_stopping (hp : s.run.port = .busy a live) (hc : s.run.control = .stopping) :
    s.accessFailed = (s.raiseCause .memError).enterStopped := by
  simp only [State.accessFailed, hp, hc]

/-- A failure that ends a start or a stop enters STOPPED, which starts from the cause and the start result. -/
theorem State.accessFailed_stops (hp : s.run.port = .busy a live)
    (hc : s.run.control = .starting ∨ s.run.control = .stopping) :
    s.accessFailed = State.enterStopped (s.setRun { s.run with
      causes := s.run.causes ||| 32
      startResult := if s.run.control = .starting then .memError else s.run.startResult }) := by
  rcases hc with hc | hc
  · rw [State.accessFailed_of_starting hp hc, if_pos hc]
    rfl
  · rw [State.accessFailed_of_stopping hp hc, if_neg (by rw [hc]; nofun)]
    rfl

/-- Settles O45: in each control state the failure is one of the equations above. -/
theorem failedAccessByControlState : Obligations.FailedAccessByControlState := by
  refine ⟨fun s a live c hp hrow => ⟨s.accessFailed, exec_of_failure hrow s, ?_, ?_, fun hc => ?_⟩,
    fun s c hp hrow => ⟨s, ?_, rfl⟩⟩
  · exact State.accessFailed_of_running hp
  · exact State.accessFailed_of_memoryError hp
  · rw [State.accessFailed_stops hp hc]
    exact ⟨rfl, rfl, rfl, fun L => congrArg (·.sup.hook) (State.enterStopped_line L)⟩
  · rw [exec_of_failure hrow, State.accessFailed_of_free hp]

end Sys2Proof.Machine

/-! ## The geometry of a start (R174, R178, R179) -/

namespace Sys2Proof.Machine

-- One theorem at a time, as above.
set_option Elab.async false

variable {s : State} {q : StartSeq} {bytes data : List Byte}

/-! ### The tests -/

/-- A region of at least one record ends with its last byte in the area's range. -/
theorem regionFits_iff {o n : Nat} (hn : 0 < n) : regionFits o n = true ↔ 0x2000 ≤ o ∧ o + 32 * n - 1 ≤ 0xFFFFF := by
  simp only [regionFits, Bool.and_eq_true, decide_eq_true_eq]
  omega

theorem regionsApart_iff (o n o' n' : Nat) : regionsApart o n o' n' = true ↔ o + 32 * n ≤ o' ∨ o' + 32 * n' ≤ o := by
  simp only [regionsApart, Bool.or_eq_true, decide_eq_true_eq]

/-- The tests of R174, each on its field. -/
theorem Geometry.passes_iff (jo jn po pn ro rn : Nat) : Geometry.passes ⟨jo, jn, po, pn, ro, rn⟩ = true ↔
    (16 ≤ jn ∧ jn ≤ 1024 ∧ 8 ∣ jn) ∧ (8 ≤ pn ∧ pn ≤ 256 ∧ 8 ∣ pn) ∧ (8 ≤ rn ∧ rn ≤ 256 ∧ 8 ∣ rn) ∧
    32 ∣ jo ∧ 32 ∣ po ∧ 32 ∣ ro ∧
    (0x2000 ≤ jo ∧ jo + 32 * jn - 1 ≤ 0xFFFFF) ∧ (0x2000 ≤ po ∧ po + 32 * pn - 1 ≤ 0xFFFFF) ∧
    (0x2000 ≤ ro ∧ ro + 32 * rn - 1 ≤ 0xFFFFF) ∧
    (jo + 32 * jn ≤ po ∨ po + 32 * pn ≤ jo) ∧ (jo + 32 * jn ≤ ro ∨ ro + 32 * rn ≤ jo) ∧
    (po + 32 * pn ≤ ro ∨ ro + 32 * rn ≤ po) := by
  simp only [Geometry.passes, Bool.and_eq_true, decide_eq_true_eq, regionsApart_iff, Nat.dvd_iff_mod_eq_zero, and_assoc]
  by_cases lengths : 16 ≤ jn ∧ 8 ≤ pn ∧ 8 ≤ rn
  · obtain ⟨hj, hp, hr⟩ := lengths
    rw [regionFits_iff (by omega), regionFits_iff (by omega), regionFits_iff (by omega)]
    simp only [and_assoc]
  · constructor
    · exact fun h => absurd ⟨h.1, h.2.2.2.1, h.2.2.2.2.2.2.1⟩ lengths
    · exact fun h => absurd ⟨h.1, h.2.2.2.1, h.2.2.2.2.2.2.1⟩ lengths

/-! ### The last of the Global Settings -/

/-- The geometry and the settings kept, and the plan tables next (R178 steps 1 to 3). -/
def State.geometryKept (s : State) (q : StartSeq) (bs : List Byte) : State :=
  let g := parseGeometry bs
  State.startAt { s with geometry := g, settings := parseSettings g.journalLength bs }
    { q with step := .plan [] [], settingsClamped := settingsClamped g.journalLength bs }

/-- With the whole region read the geometry is kept if it passes, and else the start fails (R174, R179). -/
theorem State.startSettings_of_complete (h : (bytes ++ data).length = 256) (s : State) (q : StartSeq) :
    s.startSettings q bytes data =
      if (parseGeometry (bytes ++ data)).passes then s.geometryKept q (bytes ++ data) else s.failStart .badLayout :=
  if_neg (by rw [h]; decide)

/-- In STARTING a good response goes to the start sequence. -/
theorem State.accessDone_of_starting {a : Access} {live : Bool} (hc : s.run.control = .starting)
    (hp : s.run.port = .busy a live) (ha : a.answeredBy data = true) :
    s.accessDone data = (s.freePort.startDone data).settle := by
  simp only [State.accessDone, hp, ha, hc, if_true]

theorem State.startDone_of_settings {x y : Nat} (h : s.run.start = some ⟨.settings bytes, x, y⟩) (data : List Byte) :
    s.startDone data = s.startSettings ⟨.settings bytes, x, y⟩ bytes data := by
  simp only [State.startDone, h]

/-- The port grants the first read of the plan tables (R172, R178 step 3). -/
theorem State.settle_reads_plan {x y : Nat} (hc : s.run.control = .starting) (hp : s.run.port = .free)
    (hs : s.run.start = some ⟨.plan [] [], x, y⟩) :
    s.settle = s.occupy .start ⟨false, 0x0200, 64, []⟩ := by
  have request : s.startRequest = some ⟨false, 0x0200, 64, []⟩ := by
    simp only [State.startRequest, hs]
    rfl
  simp only [State.settle_of_starting hc hp, State.grantStart, request]

/-- Settles O46: the region read whole passes the tests or fails them, and the port reads on or does nothing. -/
theorem startChecksTheGeometry : Obligations.StartChecksTheGeometry := by
  intro s a live data bytes x y hc hp _ hl hd hb hs
  refine ⟨s.accessDone data, rfl, ?_⟩
  have answered : a.answeredBy data = true := by simp [Access.answeredBy, hl, hd]
  have whole : (bytes ++ data).length = 256 := by rw [List.length_append, hb, hd]
  have done := State.accessDone_of_starting hc hp answered
  have tests : (parseGeometry (bytes ++ data)).passes = true ↔ _ := Geometry.passes_iff ..
  rw [State.startDone_of_settings (s := s.freePort) hs, State.startSettings_of_complete whole] at done
  dsimp only
  split
  · rw [done, if_pos (tests.mpr ‹_›), State.settle_reads_plan (s := s.freePort.geometryKept _ _) hc rfl rfl]
    exact ⟨rfl, rfl, hc, rfl, rfl⟩
  · rw [done, if_neg (mt tests.mp ‹_›), State.settle_of_quiet (.inr (.inl rfl))]
    exact ⟨rfl, rfl, rfl, rfl⟩

end Sys2Proof.Machine

/-! ## The register window, the interrupt line and the resets (R175 to R177, R183) -/

namespace Sys2Proof.Machine

-- One theorem at a time, as above.
set_option Elab.async false

variable {s : State}

/-! ### The interrupt line and CAUSE -/

/-- The line is asserted while some cause and its enable are both marked (R177). -/
theorem State.irq_iff (s : State) :
    s.irq = true ↔ ∃ i, i < 6 ∧ s.run.causes.getLsbD i = true ∧ s.run.enables.getLsbD i = true := by
  have zero (i : Nat) : (0 : BitVec 6).getLsbD i = false := BitVec.getLsbD_zero
  have bits (i : Nat) : (s.run.causes &&& s.run.enables).getLsbD i = true ↔
      s.run.causes.getLsbD i = true ∧ s.run.enables.getLsbD i = true := by
    rw [BitVec.getLsbD_and, Bool.and_eq_true]
  rw [State.irq, decide_eq_true_eq]
  constructor
  · intro h
    by_contra none
    refine h (BitVec.eq_of_getLsbD_eq fun i hi => ?_)
    rw [zero, Bool.eq_false_iff, Ne, bits]
    exact fun both => none ⟨i, hi, both⟩
  · rintro ⟨i, -, both⟩ h
    have marked := (bits i).mpr both
    rw [h, zero] at marked
    exact nomatch marked

/-- A mark stays unless it is written 1 (R177). -/
theorem getLsbD_causes_cleared (x : BitVec 6) (v : Word) {i : Nat} (hi : i < 6) :
    (x &&& ~~~(v.setWidth 6)).getLsbD i = (x.getLsbD i && !v.getLsbD i) := by
  simp [hi]

/-- CAUSE reads the six marks, with 0 above them (R177). -/
theorem State.readRegister_cause (s : State) {i : Nat} (hi : i < 32) :
    (s.readRegister 0x10).getLsbD i = (decide (i < 6) && s.run.causes.getLsbD i) := by
  show (s.run.causes.setWidth 32).getLsbD i = _
  rw [BitVec.getLsbD_setWidth, decide_eq_true hi, Bool.true_and]
  by_cases h : i < 6
  · rw [decide_eq_true h, Bool.true_and]
  · rw [decide_eq_false h, Bool.false_and, BitVec.getLsbD_of_ge _ _ (Nat.le_of_not_lt h)]

/-! ### CONTROL -/

/-- The bits of two flags side by side. -/
theorem testBit_two_flags (a b : Bool) : (bit a + 2 * bit b).testBit 0 = a ∧ (bit a + 2 * bit b).testBit 1 = b ∧
    (bit a + 2 * bit b).testBit 2 = false ∧ (bit a + 2 * bit b).testBit 3 = false := by
  cases a <;> cases b <;> decide

theorem two_flags_lt (a b : Bool) : bit a + 2 * bit b < 2 ^ 8 := by cases a <;> cases b <;> decide

theorem ControlState.code_le (c : ControlState) : c.code ≤ 5 := by cases c <;> decide

theorem StartResult.code_le (r : StartResult) : r.code ≤ 4 := by cases r <;> decide

/-- RUN reads 1 from the start to the stop (R176). -/
theorem ControlState.runBit_eq (c : ControlState) :
    c.runBit = decide (c = .starting ∨ c = .running ∨ c = .frozen ∨ c = .memoryError) := by
  cases c <;> rfl

/-- The fields of CONTROL side by side: RUN and FREEZE, the enables from bit 8, the codes above them (R176). -/
theorem RunControl.controlWord_toNat (r : RunControl) : r.controlWord.toNat =
    2 ^ 8 * (2 ^ 6 * (4 * r.control.code + 64 * r.startResult.code) + r.enables.toNat) +
      (bit r.control.runBit + 2 * bit r.freezeAsked) := by
  have flags := two_flags_lt r.control.runBit r.freezeAsked
  have control := r.control.code_le
  have result := r.startResult.code_le
  have enables := r.enables.isLt
  rw [RunControl.controlWord, BitVec.toNat_ofNat]
  omega

/-- Below bit 8 CONTROL reads RUN and FREEZE alone. -/
theorem RunControl.controlWord_low (r : RunControl) {i : Nat} (hi : i < 8) :
    r.controlWord.getLsbD i = (bit r.control.runBit + 2 * bit r.freezeAsked).testBit i := by
  have flags := two_flags_lt r.control.runBit r.freezeAsked
  rw [BitVec.getLsbD, controlWord_toNat, Nat.testBit_two_pow_mul_add _ flags, if_pos hi]

theorem RunControl.controlWord_enables (r : RunControl) {i : Nat} (hi : i < 6) :
    r.controlWord.getLsbD (8 + i) = r.enables.getLsbD i := by
  have flags := two_flags_lt r.control.runBit r.freezeAsked
  rw [BitVec.getLsbD, controlWord_toNat, Nat.testBit_two_pow_mul_add _ flags, if_neg (by omega),
    Nat.add_sub_cancel_left, Nat.testBit_two_pow_mul_add _ r.enables.isLt, if_pos hi]
  rfl

theorem RunControl.controlWord_codes (r : RunControl) :
    (r.controlWord.extractLsb' 16 3).toNat = r.control.code ∧
    (r.controlWord.extractLsb' 20 3).toNat = r.startResult.code := by
  have flags := two_flags_lt r.control.runBit r.freezeAsked
  have control := r.control.code_le
  have result := r.startResult.code_le
  have enables := r.enables.isLt
  rw [BitVec.extractLsb'_toNat, BitVec.extractLsb'_toNat, Nat.shiftRight_eq_div_pow, Nat.shiftRight_eq_div_pow,
    controlWord_toNat]
  omega

/-- Settles O59: the two writes change their own field, and the reads are those of the fields of CONTROL and of CAUSE. -/
theorem causesEnablesAndTheInterruptLine : Obligations.CausesEnablesAndTheInterruptLine := by
  refine ⟨fun s v => ⟨_, rfl, fun i hi => getLsbD_causes_cleared _ v hi, rfl, State.irq_iff _,
    fun i hi => State.readRegister_cause _ hi⟩, fun s m => ⟨s.setRun { s.run with enables := m }, rfl, rfl,
    State.irq_iff _, fun i hi => RunControl.controlWord_enables _ hi, ?_⟩⟩
  obtain ⟨run, freeze, resume, reset⟩ := testBit_two_flags s.run.control.runBit s.run.freezeAsked
  have low {i : Nat} (hi : i < 8) := RunControl.controlWord_low { s.run with enables := m } hi
  obtain ⟨control, result⟩ := RunControl.controlWord_codes { s.run with enables := m }
  refine ⟨(low (by decide)).trans freeze, (low (by decide)).trans (run.trans s.run.control.runBit_eq),
    (low (by decide)).trans resume, (low (by decide)).trans reset, control.trans ?_, result.trans ?_⟩
  · show s.run.control.code = _
    cases s.run.control <;> rfl
  · show s.run.startResult.code = _
    cases s.run.startResult <;> rfl

/-! ### The other registers -/

theorem State.readRegister_of_other (s : State) {o : Nat} (h0 : o ≠ 0x00) (h4 : o ≠ 0x04) (h8 : o ≠ 0x08)
    (h10 : o ≠ 0x10) : s.readRegister o = 0 := by
  rw [State.readRegister, if_neg h0, if_neg h4, if_neg h8, if_neg h10]

/-- The low 12 bits of an area base are 0 (R175). -/
theorem getLsbD_baseOf (v : Word) (i : Nat) : (baseOf v).getLsbD i = (decide (12 ≤ i) && v.getLsbD i) := by
  by_cases hi : i < 32
  · have mask : ∀ k < 32, (0xFFFFF000#32).getLsbD k = decide (12 ≤ k) := by decide
    rw [baseOf, BitVec.getLsbD_and, mask i hi, Bool.and_comm]
  · rw [BitVec.getLsbD_of_ge _ _ (Nat.le_of_not_lt hi), BitVec.getLsbD_of_ge _ _ (Nat.le_of_not_lt hi), Bool.and_false]

/-- A write of AREA_BASE in STOPPED or FROZEN (R175). -/
theorem exec_areaBase_taken (hc : s.run.control = .stopped ∨ s.run.control = .frozen) (v : Word) :
    exec (.areaBase v) s = .next (s.setRun { s.run with areaBase := baseOf v }) :=
  congrArg Host.Outcome.next (if_pos hc)

/-- Settles O60: each read and each write of the window by its own equation. -/
theorem theRegisterWindow : Obligations.TheRegisterWindow := by
  refine ⟨fun s => ⟨rfl, rfl, rfl⟩, fun s o h0 h4 h8 _ h10 => s.readRegister_of_other h0 h4 h8 h10,
    fun s v hc => ⟨_, exec_areaBase_taken hc v, rfl, getLsbD_baseOf v, fun i hi => ?_⟩, fun s v hs hf => ?_,
    fun s x q => rfl, fun s v w => ⟨rfl, rfl⟩, fun s o v => rfl⟩
  · exact (getLsbD_baseOf v i).trans (by rw [decide_eq_false (Nat.not_le_of_lt hi), Bool.false_and])
  · exact congrArg Host.Outcome.next (if_neg fun h => h.elim hs hf)

/-! ### The resets -/

theorem State.reset_link (g : LinkNo) : State.reset.link g = {} := by
  simp [State.link, State.reset]

/-- Settles O9: both resets by definition, and each line, link and receiver of the state after reset has the default
values. -/
theorem resetsGiveTheResetState : Obligations.ResetsGiveTheResetState := by
  refine ⟨fun s => rfl, fun s => rfl, rfl, rfl, rfl, State.reset_link, fun L => ?_, rfl, rfl, rfl, State.reset_receiver,
    rfl, rfl, rfl, rfl, rfl, rfl, rfl, rfl, rfl⟩
  rw [State.reset_line]
  refine ⟨rfl, rfl, rfl, rfl, fun c => ?_, rfl, rfl, rfl⟩
  cases c <;> rfl

end Sys2Proof.Machine


/-! ## The step on the queue of waiting commands (log entry 2) -/

namespace Sys2Proof.Machine

variable {s : State}

/-- A later change of the queue replaces an earlier one and touches nothing else. -/
@[simp] theorem State.withPending_withPending (s : State) (p q : List Instr) :
    (s.withPending p).withPending q = s.withPending q := rfl

/-- The machine idles on an empty queue. -/
theorem step_of_pending_nil (h : s.pending = []) : step s = .next s := by
  rw [step, h]

/-- The front command leaves the queue before it is carried out. -/
theorem step_of_pending_cons {c : Instr} {rest : List Instr} (h : s.pending = c :: rest) :
    step s = exec c (s.withPending rest) := by
  rw [step, h]

/-- Settles O1: the two cases of the queue; taking the front command away leaves `s` with the queue `rest`. -/
theorem stepRunsFrontCommand : Obligations.StepRunsFrontCommand := by
  refine ⟨fun c rest s => ?_, fun _ => step_of_pending_nil⟩
  calc step (s.withPending (c :: rest))
      = exec c ((s.withPending (c :: rest)).withPending rest) :=
        step_of_pending_cons (s.withPending_pending (c :: rest))
    _ = exec c (s.withPending rest) := by rw [State.withPending_withPending]

end Sys2Proof.Machine
